-- ==== Sys2Proof/Word.lean ====
section
/-! DEFINITION. The word types of the audiochat modem core (00_scope.md R7). -/
namespace Sys2Proof

/-- `u8`: a byte is 8 bits (R7). -/
abbrev Byte := BitVec 8

/-- `int16`: a sample word, two's complement (R7, R92). -/
abbrev Sample := BitVec 16

/-- `u3`: a symbol is 3 bits; all eight values are legal (R7, R103). -/
abbrev Symbol := BitVec 3

end Sys2Proof
end

