-- ==== Sys2Proof/Config.lean ====
section
/-! DEFINITION. The parameters of R5, which are constants of this hardware, and the model's free values: `RD_MAX`, which
the spec leaves OPEN (D8), and the environment's moves, which are a free input (R14, R43, R351). -/
namespace Sys2Proof

/-- What the outside agents and the scheduler may do in one step (R13, R14, R351). The order in which the agents step
is open, so a sequencer's turn is a move like any other. Assumption log 1. -/
inductive Move where
  /-- The host offers one byte on the command port (R66). -/
  | cmd (b : Byte)
  /-- The ADC offers a run of transfers, oldest first; `last`: the final one carries `adc_last` (R62, R44). Log 10. -/
  | adc (xs : List Sample) (last : Bool)
  /-- The receive sequencer takes one turn (R160). -/
  | rx
  /-- The transmit sequencer takes one turn (R140). -/
  | tx
  /-- The tone table is read for this symbol (R131). Log 11. -/
  | tone (s : Symbol)
  /-- The host takes one byte from the event port (R67, R239). -/
  | evt
  /-- The environment sets the pins `adc_ok` and `dac_ok` (R62, R64, R108). -/
  | pins (adcOk dacOk : Bool)
  /-- The DAC sets its pin `dac_ready` (R64). -/
  | dacReady (r : Bool)
  /-- The environment sets the pin `rst`; at level 1 the core is reset at this clock edge (R320). Log 15. -/
  | rst (level : Bool)
  deriving DecidableEq, Repr, Inhabited

namespace Config

/-- `FS`: sample rate in Hz (R5, D2). -/
@[simp] abbrev fs : Nat := 44100
/-- `SYM_MS`: nominal symbol duration in milliseconds (R5). -/
@[simp] abbrev symMs : Nat := 4
/-- `N`: symbol duration in samples, `floor(FS * SYM_MS / 1000)` (R5, C2). -/
@[simp] abbrev chunkLen : Nat := 176
/-- `F_BASE`: carrier of symbol 0 in Hz (R5). -/
@[simp] abbrev fBase : Nat := 17000
/-- `F_STEP`: carrier spacing in Hz (R5). -/
@[simp] abbrev fStep : Nat := 485
/-- R6: the carrier of symbol `s` in Hz. -/
def carrier (s : Symbol) : Nat := fBase + fStep * s.toNat
/-- `PREAMBLE` (R5, R144). -/
@[simp] abbrev preamble : List Symbol := [0, 7, 0, 7]
/-- `TRIG_CHUNKS` chunks: the length in samples from which an attempt is made (R5, R162). -/
@[simp] abbrev trigLen : Nat := 30 * 176
/-- `WIN_CHUNKS`: most chunks examined in an attempt (R5, R201). -/
@[simp] abbrev winChunks : Nat := 50
/-- `TRIM_HI` chunks: a trim happens above this length in samples (R5, R166). -/
@[simp] abbrev trimHi : Nat := 100 * 176
/-- `TRIM_KEEP` chunks: the samples a trim keeps (R5, R166). -/
@[simp] abbrev trimKeep : Nat := 50 * 176
/-- `PAY_BYTES_MAX` (R5, R36). -/
@[simp] abbrev payBytesMax : Nat := 17
/-- `SENDER_MAX`: capacity of the username register (R5, D13). -/
@[simp] abbrev senderMax : Nat := 16
/-- `MSG_MAX`: capacity of one message (R5, D13). -/
@[simp] abbrev msgMax : Nat := 64
/-- `TXPAY_MAX` (R5). -/
@[simp] abbrev txPayMax : Nat := 81
/-- `COEF_FRAC`: fraction bits of the coefficient ROM (R5, D4). -/
@[simp] abbrev coefFrac : Nat := 14

/-- Nothing is known of this number: `RD_MAX` less one. -/
opaque rdMaxLess1 : Nat

/-- `RD_MAX`, OPEN, at least 1 (R5, D8): the launch value of the state's field `rdMax` (R350). Assumption log 3. -/
def rdMax : Nat := rdMaxLess1 + 1

/-- The move number `k` that the environment and the scheduler make where none is scheduled: a free input (R14, U2, U3,
U6). Assumption log 1. -/
opaque freeMove : Nat → Move

end Config
end Sys2Proof
end

