-- ==== Sys2Proof/Syntax.lean ====
section
/-! DEFINITION. The operations of the core (R12): one constructor per row of spec/opcode_table.json. -/
namespace Sys2Proof

/-- The closed list of operations of R12. The commands carry the operands of their records (R98). The operands of the
others stand in the state: the burst on the ADC port, the message handed over by `SEND`, the counters of R26. -/
inductive Instr where
  /-- `NOP` (R251). -/
  | nop
  /-- `START` (R252). -/
  | start
  /-- `STOP` (R253). -/
  | stop
  /-- `SETUSER(name)` (R254). -/
  | setuser (name : List Byte)
  /-- `SEND(msg)` (R255). -/
  | send (msg : List Byte)
  /-- `CLRERR(mask)` (R256). -/
  | clrerr (mask : Byte)
  /-- `RX_APPEND(burst)` (R161); the burst is on the ADC port. -/
  | rxAppend
  /-- `RX_GOERTZEL(c)` with `c` = `CIDX` (R182). -/
  | rxGoertzel
  /-- `RX_SLICE(c)` with `c` = `CIDX` (R186). -/
  | rxSlice
  /-- `RX_SCAN` (R203). -/
  | rxScan
  /-- `RX_UNPACK` (R221). -/
  | rxUnpack
  /-- `RX_PARSE` (R223). -/
  | rxParse
  /-- `RX_FILTER` (R236). -/
  | rxFilter
  /-- `RX_DELIVER` (R238). -/
  | rxDeliver
  /-- `RX_ADVANCE` (R207). -/
  | rxAdvance
  /-- `RX_TRIM` (R166). -/
  | rxTrim
  /-- `TX_FRAME(msg)` (R141); the message is the one `SEND` handed over. -/
  | txFrame
  /-- `TX_PACK` (R143). -/
  | txPack
  /-- `TX_PLAY` (R146). -/
  | txPlay
  /-- `TONE(0, n)` with `n` = `TXN` (R131). -/
  | tone0
  /-- `TONE(1, n)` with `n` = `TXN` (R131). -/
  | tone1
  /-- `TONE(2, n)` with `n` = `TXN` (R131). -/
  | tone2
  /-- `TONE(3, n)` with `n` = `TXN` (R131). -/
  | tone3
  /-- `TONE(4, n)` with `n` = `TXN` (R131). -/
  | tone4
  /-- `TONE(5, n)` with `n` = `TXN` (R131). -/
  | tone5
  /-- `TONE(6, n)` with `n` = `TXN` (R131). -/
  | tone6
  /-- `TONE(7, n)` with `n` = `TXN` (R131). -/
  | tone7
  deriving DecidableEq, Repr

end Sys2Proof
end

