-- ==== Sys2Proof/WellFormed.lean ====
section
/-! DEFINITION. Which operations have a legal encoding: the length operands of R98 and R99. -/
namespace Sys2Proof

/-- R99: a `SETUSER` length above 16 and a `SEND` length above 64 are illegal; every other operand is legal. -/
def Instr.wellFormed : Instr → Bool
  | .setuser name => decide (name.length ≤ Config.senderMax)
  | .send msg => decide (msg.length ≤ Config.msgMax)
  | _ => true

end Sys2Proof
end

