-- ==== Sys2Proof/Decode.lean ====
section
/-! DEFINITION. The encodings (30_encoding.md R90, R98, R101; 10_state.md R23, R24): the decoder, total and rejecting by
name, then the encoder, and the reading of a word of spec/opcode_table.json. -/
namespace Sys2Proof

/-- An encoded operation in one of the four formats of opcode_table.json (R90). -/
inductive Code where
  /-- Format `CMD`: the bytes of a command record, first byte first (R98). -/
  | cmd (record : List Byte)
  /-- Format `RXSEQ`: a 4-bit state code (R23, R101). -/
  | rxseq (code : BitVec 4)
  /-- Format `TXSEQ`: a 2-bit state code (R24, R101). -/
  | txseq (code : BitVec 2)
  /-- Format `SYM`: the symbol is the whole encoding (R91, R131). -/
  | sym (s : Symbol)
  deriving DecidableEq, Repr

/-- Why an encoding names no operation. -/
inductive DecodeErr where
  /-- Opcode bytes 0x06 to 0xFF (R102). -/
  | reservedOpcode
  /-- A length operand above its limit (R99). -/
  | badLen
  /-- The record ends before its last byte (R98). -/
  | incomplete
  /-- Bytes stand after the record's last byte (R98). -/
  | trailing
  /-- Codes 0 of `RXSEQ` and `TXSEQ`: states that run no operation (R23, R24). -/
  | noOperation
  /-- `RXSEQ` codes 11 to 15, unused (R23). -/
  | unusedCode
  deriving DecidableEq, Repr

/-- The decoder's answer on one encoding. -/
inductive Decoded where
  | ok (i : Instr)
  | rejected (e : DecodeErr)
  deriving DecidableEq, Repr

/-- The decoder's answer on a byte stream: an operation and the bytes after its record. -/
inductive StreamDecoded where
  | ok (i : Instr) (rest : List Byte)
  | rejected (e : DecodeErr)
  deriving DecidableEq, Repr

/-- R98, R99: a length byte, then that many data bytes; `mk` makes the operation of the data. -/
def decodeData (limit : Nat) (mk : List Byte → Instr) : List Byte → StreamDecoded
  | [] => .rejected .incomplete
  | len :: rest =>
    if limit < len.toNat then .rejected .badLen
    else if rest.length < len.toNat then .rejected .incomplete
    else .ok (mk (rest.take len.toNat)) (rest.drop len.toNat)

/-- R98: the command record at the head of a byte stream. -/
def decodeStream : List Byte → StreamDecoded
  | [] => .rejected .incomplete
  | op :: rest =>
    if op = 0x00#8 then .ok .nop rest
    else if op = 0x01#8 then .ok .start rest
    else if op = 0x02#8 then .ok .stop rest
    else if op = 0x03#8 then decodeData Config.senderMax .setuser rest
    else if op = 0x04#8 then decodeData Config.msgMax .send rest
    else if op = 0x05#8 then
      match rest with
      | [] => .rejected .incomplete
      | mask :: rest => .ok (.clrerr mask) rest
    else .rejected .reservedOpcode

/-- R98: exactly one whole command record. -/
def decodeCmd (record : List Byte) : Decoded :=
  match decodeStream record with
  | .ok i [] => .ok i
  | .ok _ (_ :: _) => .rejected .trailing
  | .rejected e => .rejected e

/-- R23: the operation run in the receive sequencer state with this code. -/
def decodeRx (code : BitVec 4) : Decoded :=
  match code.toNat with
  | 0 => .rejected .noOperation
  | 1 => .ok .rxAppend
  | 2 => .ok .rxGoertzel
  | 3 => .ok .rxSlice
  | 4 => .ok .rxScan
  | 5 => .ok .rxUnpack
  | 6 => .ok .rxParse
  | 7 => .ok .rxFilter
  | 8 => .ok .rxDeliver
  | 9 => .ok .rxAdvance
  | 10 => .ok .rxTrim
  | _ => .rejected .unusedCode

/-- R24: the operation run in the transmit sequencer state with this code. -/
def decodeTx (code : BitVec 2) : Decoded :=
  match code.toNat with
  | 1 => .ok .txFrame
  | 2 => .ok .txPack
  | 3 => .ok .txPlay
  | _ => .rejected .noOperation

/-- R91, R131: the tone read of a symbol. -/
def decodeSym (s : Symbol) : Instr :=
  match s.toNat with
  | 0 => .tone0
  | 1 => .tone1
  | 2 => .tone2
  | 3 => .tone3
  | 4 => .tone4
  | 5 => .tone5
  | 6 => .tone6
  | _ => .tone7

/-- The decoder. -/
def decode : Code → Decoded
  | .cmd record => decodeCmd record
  | .rxseq code => decodeRx code
  | .txseq code => decodeTx code
  | .sym s => .ok (decodeSym s)

/-- R98: a record with a length operand. -/
def dataRecord (op : Byte) (data : List Byte) : List Byte := op :: BitVec.ofNat 8 data.length :: data

/-- The encoder: the encoding that opcode_table.json and R98, R23, R24, R91 give an operation. -/
def encode : Instr → Code
  | .nop => .cmd [0x00#8]
  | .start => .cmd [0x01#8]
  | .stop => .cmd [0x02#8]
  | .setuser name => .cmd (dataRecord 0x03#8 name)
  | .send msg => .cmd (dataRecord 0x04#8 msg)
  | .clrerr mask => .cmd [0x05#8, mask]
  | .rxAppend => .rxseq 0b0001#4
  | .rxGoertzel => .rxseq 0b0010#4
  | .rxSlice => .rxseq 0b0011#4
  | .rxScan => .rxseq 0b0100#4
  | .rxUnpack => .rxseq 0b0101#4
  | .rxParse => .rxseq 0b0110#4
  | .rxFilter => .rxseq 0b0111#4
  | .rxDeliver => .rxseq 0b1000#4
  | .rxAdvance => .rxseq 0b1001#4
  | .rxTrim => .rxseq 0b1010#4
  | .txFrame => .txseq 0b01#2
  | .txPack => .txseq 0b10#2
  | .txPlay => .txseq 0b11#2
  | .tone0 => .sym 0b000#3
  | .tone1 => .sym 0b001#3
  | .tone2 => .sym 0b010#3
  | .tone3 => .sym 0b011#3
  | .tone4 => .sym 0b100#3
  | .tone5 => .sym 0b101#3
  | .tone6 => .sym 0b110#3
  | .tone7 => .sym 0b111#3

/-- The longest command record of R98 whose length is legal: opcode, length, 64 bytes. -/
def maxRecord : Nat := 2 + Config.msgMax

/-- The first `n` bytes of `w`, bits 7..0 first. -/
def wordBytes : Nat → Nat → List Byte
  | 0, _ => []
  | n + 1, w => BitVec.ofNat 8 w :: wordBytes n (w / 256)

/-- The bytes of a table word of `nbits` bits, then zeros up to the longest record. -/
def tableBytes (nbits w : Nat) : List Byte :=
  wordBytes (nbits / 8) w ++ List.replicate (maxRecord - nbits / 8) 0

/-- The operation that a 4-bit `RXSEQ` code stands for, if any. -/
def rxWord (w : Nat) : Option Instr :=
  match decodeRx (BitVec.ofNat 4 w) with
  | .ok i => some i
  | .rejected _ => none

/-- The operation that a 2-bit `TXSEQ` code stands for, if any. -/
def txWord (w : Nat) : Option Instr :=
  match decodeTx (BitVec.ofNat 2 w) with
  | .ok i => some i
  | .rejected _ => none

/-- The operation at the head of the command bytes of a table word, if any. -/
def cmdWord (nbits w : Nat) : Option Instr :=
  match decodeStream (tableBytes nbits w) with
  | .ok i _ => some i
  | .rejected _ => none

/-- Whether a table word of one byte is one that no command has and a receive state code has: 0x06 to 0x0A. The command
port rejects these bytes all the same (R102): this is about words of the table only. -/
def rxByteWord (nbits w : Nat) : Bool := decide (nbits = 8 ∧ 6 ≤ w ∧ w ≤ 10)

/-- The operation that a word of spec/opcode_table.json stands for. The table's four formats reuse the same numbers, so
the width tells the format: 4 bits `RXSEQ`, 2 bits `TXSEQ`, 3 bits `SYM`, else command bytes; a one-byte word that only a
receive state code has is that code. Assumption log 17. -/
def decodeTableWord (nbits w : Nat) : Option Instr :=
  if nbits = 4 ∨ rxByteWord nbits w then rxWord w
  else if nbits = 2 then txWord w
  else if nbits = 3 then some (decodeSym (BitVec.ofNat 3 w))
  else cmdWord nbits w

end Sys2Proof
end

