-- ==== Sys2Proof/Machine/Rom.lean ====
section
/-! DEFINITION. The two ROMs, `LUT` (R41, R361) and `CROM` (R42, R360), as literals: the integers of
48_tables.md are normative ("a model should carry them as literals"). They stand here, and not in Config.lean, because
a definition of this folder can be mended. -/
namespace Sys2Proof.Machine

/-- One row of `CROM` (R42, R60): `K` is the bin index, kept for reference; the others have 14 fraction bits. -/
structure CromRow where
  k : BitVec 8
  coef : BitVec 16
  cosw : BitVec 16
  sinw : BitVec 16
  deriving DecidableEq, Repr

/-- A row from the decimal figures of R360. -/
def cromRow (k coef cosw sinw : Int) : CromRow :=
  ⟨BitVec.ofInt 8 k, BitVec.ofInt 16 coef, BitVec.ofInt 16 cosw, BitVec.ofInt 16 sinw⟩

/-- R360: the contents of `CROM`, row `s` for channel `s`. -/
def crom : Vector CromRow 8 :=
  #v[cromRow 68 (-24764) (-12382) 10729,
     cromRow 70 (-26232) (-13116) 9819,
     cromRow 72 (-27566) (-13783) 8858,
     cromRow 74 (-28760) (-14380) 7852,
     cromRow 76 (-29807) (-14903) 6806,
     cromRow 78 (-30702) (-15351) 5726,
     cromRow 79 (-31091) (-15546) 5174,
     cromRow 81 (-31750) (-15875) 4052]

/-- Sixteen-bit words from the decimal figures of R361. -/
def samples (xs : List Int) : List Sample := xs.map (BitVec.ofInt 16)

/-- R361, row 0: carrier 17000 Hz. -/
def lutRow0 : List Sample := samples (
  [0, 19434, -29235, 24542, -7683, -12984, 27215, -27955, 14836, 5637, -23316, 29436, -20964, 2099, 17806, -28885] ++
  [25644, -9690, -11067, 26338, -28552, 16612, 3563, -21972, 29489, -22387, 4187, 16088, -28388, 26615, -11648, -9093] ++
  [25327, -29005, 18305, 1470, -20516, 29391, -23697, 6255, 14288, -27748, 27452, -13547, -7073, 24187, -29311, 19904] ++
  [-630, -18956, 29145, -24886, 8290, 12416, -26966, 28149, -15377, -5017, 22925, -29468, 21402, -2727, -17300, 28751] ++
  [-25949, 10283, 10480, -26048, 28703, -17129, -2936, 21546, -29475, 22792, -4810, -15556, 28211, -26881, 12225, 8491] ++
  [-24998, 29112, -18795, -840, 20058, -29333, 24066, -6869, -13733, 27528, -27676, 14104, 6460, -23821, 29373, -20364] ++
  [1260, 18469, -29042, 25218, -8893, -11841, 26705, -28330, 15912, 4395, -22523, 29486, -21831, 3354, 16786, -28604] ++
  [26243, -10872, -9889, 25747, -28841, 17638, 2309, -21111, 29448, -23187, 5431, 15017, -28021, 27134, -12795, -7886] ++
  [24658, -29206, 19276, 210, -19592, 29261, -24425, 7480, 13173, -27295, 27887, -14654, -5843, 23444, -29423, 20816] ++
  [-1889, -17973, 28926, -25539, 9492, 11261, -26432, 28499, -16438, -3771, 22111, -29490, 22250, -3979, -16264, 28444] ++
  [-26524, 11455, 9293, -25434, 28966, -18139, -1680, 20666, -29408, 23571, -6049, -14471, 27818, -27374, 13360, 7277])

/-- R361, row 1: carrier 17485 Hz. -/
def lutRow1 : List Sample := samples (
  [0, 17857, -28422, 27382, -15162, -3250, 20334, -29116, 26009, -12282, -6460, 22564, -29455, 24319, -9253, -9591] ++
  [24519, -29435, 22332, -6111, -12606, 26175, -29057, 20074, -2894, -15467, 27513, -28325, 17571, 357, -18139, 28515] ++
  [-27247, 14854, 3604, -20591, 29170, -25838, 11956, 6808, -22792, 29470, -24115, 8913, 9928, -24715, 29411, -22097] ++
  [5761, 12928, -26338, 28994, -19811, 2539, 15770, -27639, 28223, -17283, -714, 18420, -28604, 27109, -14545, -3959] ++
  [20845, -29221, 25664, -11629, -7155, 23017, -29481, 23907, -8572, -10264, 24908, -29383, 21859, -5410, -13248, 26496] ++
  [-28926, 19545, -2183, -16070, 27762, -28117, 16992, 1071, -18697, 28689, -26966, 14233, 4312, -21096, 29267, -25487] ++
  [11300, 7501, -23239, 29488, -23697, 8230, 10598, -25098, 29350, -21618, 5059, 13566, -26651, 28855, -19276, 1827] ++
  [16369, -27880, 28008, -16699, -1428, 18972, -28769, 26820, -13919, -4665, 21344, -29308, 25305, -10969, -7846, 23457] ++
  [-29490, 23482, -7886, -10930, 25284, -29313, 21373, -4707, -13882, 26802, -28779, 19004, -1470, -16665, 27995, -27894] ++
  [16404, 1785, -19244, 28846, -26669, 13603, 5017, -21589, 29346, -25120, 10637, 8189, -23672, 29488, -23265, 7541] ++
  [11261, -25466, 29272, -21126, 4354, 14196, -26949, 28699, -18730, 1113, 16958, -28105, 27776, -16106, -2141, 19513])

/-- R361, row 2: carrier 17970 Hz. -/
def lutRow2 : List Sample := samples (
  [0, 16193, -27067, 29050, -21489, 6869, 10007, -23596, 29434, -25602, 13360, 3271, -18827, 28199, -28307, 19116] ++
  [-3646, -13022, 25412, -29455, 23821, -10362, -6501, 21228, -28982, 27215, -16508, 378, 15876, -26915, 29112, -21746] ++
  [7236, 9651, -23367, 29408, -25788, 13696, 2894, -18534, 28086, -28411, 19403, -4021, -12682, 25218, -29471, 24042] ++
  [-10715, -6131, 20964, -28910, 27359, -16820, 756, 15556, -26758, 29170, -22000, 7602, 9293, -23135, 29377, -25969] ++
  [14030, 2518, -18239, 27968, -28510, 19686, -4395, -12339, 25020, -29482, 24259, -11067, -5761, 20696, -28833, 27498] ++
  [-17129, 1134, 15234, -26597, 29223, -22250, 7967, 8933, -22898, 29342, -26146, 14361, 2141, -17940, 27846, -28604] ++
  [19966, -4769, -11995, 24818, -29489, 24472, -11416, -5390, 20425, -28751, 27632, -17436, 1512, 14909, -26432, 29272] ++
  [-22496, 8330, 8572, -22658, 29301, -26319, 14691, 1764, -17638, 27719, -28694, 20243, -5142, -11648, 24612, -29490] ++
  [24681, -11764, -5017, 20151, -28664, 27762, -17739, 1889, 14581, -26262, 29315, -22739, 8692, 8209, -22414, 29256] ++
  [-26487, 15017, 1386, -17334, 27588, -28779, 20516, -5514, -11300, 24401, -29487, 24886, -12110, -4644, 19873, -28573] ++
  [27887, -18040, 2267, 14251, -26088, 29354, -22978, 9053, 7846, -22167, 29206, -26651, 15341, 1008, -17027, 27452])

/-- R361, row 3: carrier 18455 Hz. -/
def lutRow3 : List Sample := samples (
  [0, 14453, -25197, 29473, -26185, 16176, -2015, -12663, 24091, -29335, 27051, -17823, 4021, 10813, -22872, 29060] ++
  [-27790, 19387, -6008, -8913, 21546, -28650, 28399, -20860, 7967, 6971, -20120, 28105, -28876, 22236, -9889, -4997] ++
  [18600, -27429, 29218, -23508, 11764, 2999, -16992, 26624, -29423, 24670, -13584, -987, 15306, -25695, 29490, -25716] ++
  [15341, -1029, -13547, 24646, -29420, 26642, -17027, 3041, 11726, -23482, 29212, -27444, 18632, -5038, -9849, 22208] ++
  [-28868, 28117, -20151, 7012, 7926, -20830, 28388, -28659, 21575, -8953, -5967, 19355, -27776, 29067, -22898, 10852] ++
  [3979, -17790, 27034, -29340, 24115, -12701, -1973, 16141, -26165, 29474, -25218, 14490, -42, -14416, 25175, -29472] ++
  [26204, -16211, 2057, 12625, -24066, 29331, -27067, 17857, -4063, -10774, 22845, -29053, 27804, -19419, 6049, 8873] ++
  [-21518, 28640, -28411, 20890, -8007, -6930, 20089, -28092, 28885, -22264, 9928, 4955, -18567, 27413, -29223, 23533] ++
  [-11803, -2957, 16958, -26606, 29426, -24693, 13622, 945, -15270, 25675, -29490, 25737, -15377, 1071, 13510, -24623] ++
  [29417, -26660, 17061, -3083, -11687, 23457, -29206, 27459, -18665, 5080, 9809, -22181, 28859, -28130, 20181, -7053] ++
  [-7886, 20801, -28377, 28669, -21604, 8993, 5926, -19324, 27762, -29075, 22925, -10891, -3938, 17756, -27017, 29344])

/-- R361, row 4: carrier 18940 Hz. -/
def lutRow4 : List Sample := samples (
  [0, 12644, -22845, 28635, -28893, 23571, -13696, 1176, 11571, -22083, 28330, -29106, 24259, -14727, 2350, 10480] ++
  [-21286, 27981, -29272, 24908, -15734, 3521, 9372, -20455, 27588, -29391, 25518, -16716, 4686, 8250, -19592, 27150] ++
  [-29464, 26088, -17672, 5843, 7114, -18697, 26669, -29490, 26615, -18600, 6992, 5967, -17773, 26146, -29469, 27101] ++
  [-19498, 8129, 4810, -16820, 25581, -29401, 27543, -20364, 9253, 3646, -15841, 24976, -29287, 27941, -21199, 10362] ++
  [2476, -14836, 24330, -29126, 28295, -22000, 11455, 1302, -13808, 23646, -28918, 28604, -22765, 12530, 126, -12757] ++
  [22925, -28664, 28868, -23495, 13584, -1050, -11687, 22167, -28365, 29085, -24187, 14618, -2225, -10598, 21373, -28021] ++
  [29256, -24841, 15627, -3396, -9492, 20546, -27632, 29381, -25455, 16612, -4561, -8371, 19686, -27199, 29459, -26029] ++
  [17571, -5720, -7236, 18795, -26723, 29490, -26561, 18502, -6869, -6090, 17873, -26204, 29474, -27051, 19403, -8007] ++
  [-4935, 16924, -25644, 29411, -27498, 20273, -9133, -3771, 15947, -25043, 29301, -27901, 21111, -10244, -2602, 14945] ++
  [-24401, 29145, -28259, 21916, -11339, -1428, 13919, -23722, 28942, -28573, 22685, -12416, -252, 12871, -23004, 28694] ++
  [-28841, 23419, -13472, 924, 11803, -22250, 28399, -29064, 24115, -14508, 2099, 10715, -21460, 28060, -29240, 24773])

/-- R361, row 5: carrier 19425 Hz. -/
def lutRow5 : List Sample := samples (
  [0, 10774, -20058, 26570, -29408, 28180, -23056, 14745, -4395, -6562, 16612, -24366, 28751, -29161, 25539, -18387] ++
  [8692, 2204, -12795, 21618, -27452, 29490, -27452, 21618, -12795, 2204, 8692, -18387, 25539, -29161, 28751, -24366] ++
  [16612, -6562, -4395, 14745, -23056, 28180, -29408, 26570, -20058, 10774, 0, -10774, 20058, -26570, 29408, -28180] ++
  [23056, -14745, 4395, 6562, -16612, 24366, -28751, 29161, -25539, 18387, -8692, -2204, 12795, -21618, 27452, -29490] ++
  [27452, -21618, 12795, -2204, -8692, 18387, -25539, 29161, -28751, 24366, -16612, 6562, 4395, -14745, 23056, -28180] ++
  [29408, -26570, 20058, -10774, 0, 10774, -20058, 26570, -29408, 28180, -23056, 14745, -4395, -6562, 16612, -24366] ++
  [28751, -29161, 25539, -18387, 8692, 2204, -12795, 21618, -27452, 29490, -27452, 21618, -12795, 2204, 8692, -18387] ++
  [25539, -29161, 28751, -24366, 16612, -6562, -4395, 14745, -23056, 28180, -29408, 26570, -20058, 10774, 0, -10774] ++
  [20058, -26570, 29408, -28180, 23056, -14745, 4395, 6562, -16612, 24366, -28751, 29161, -25539, 18387, -8692, -2204] ++
  [12795, -21618, 27452, -29490, 27452, -21618, 12795, -2204, -8692, 18387, -25539, 29161, -28751, 24366, -16612, 6562] ++
  [4395, -14745, 23056, -28180, 29408, -26570, 20058, -10774, 0, 10774, -20058, 26570, -29408, 28180, -23056, 14745])

/-- R361, row 6: carrier 19910 Hz. -/
def lutRow6 : List Sample := samples (
  [0, 8853, -16889, 23367, -27690, 29459, -28510, 24931, -19052, 11416, -2727, -6214, 14581, -21604, 26633, -29206] ++
  [29085, -26281, 21052, -13882, 5431, 3521, -12148, 19655, -25348, 28703, -29411, 27405, -22872, 16229, -8088, -798] ++
  [9611, -17537, 23846, -27955, 29485, -28295, 24495, -18436, 10676, -1931, -6992, 15270, -22139, 26966, -29306, 28942] ++
  [-25909, 20486, -13173, 4644, 4312, -12871, 20243, -25747, 28876, -29342, 27101, -22360, 15556, -7318, -1596, 10362] ++
  [-18173, 24307, -28199, 29489, -28060, 24042, -17806, 9928, -1134, -7764, 15947, -22658, 27280, -29384, 28779, -25518] ++
  [19904, -12454, 3854, 5100, -13584, 20816, -26127, 29028, -29251, 26776, -21831, 14872, -6542, -2392, 11106, -18795] ++
  [24750, -28422, 29472, -27804, 23571, -17164, 9173, -336, -8532, 16612, -23161, 27573, -29441, 28594, -25109, 19308] ++
  [-11726, 3062, 5885, -14288, 21373, -26487, 29158, -29139, 26432, -21286, 14178, -5761, -3187, 11841, -19403, 25175] ++
  [-28624, 29434, -27528, 23083, -16508, 8411, 462, -9293, 17266, -23646, 27846, -29476, 28388, -24681, 18697, -10989] ++
  [2267, 6665, -14981, 21916, -26828, 29267, -29005, 26068, -20726, 13472, -4976, -3979, 12568, -19997, 25581, -28806] ++
  [29373, -27231, 22577, -15841, 7643, 1260, -10047, 17907, -24115, 28098, -29490, 28161, -24235, 18073, -10244, 1470])

/-- R361, row 7: carrier 20395 Hz. -/
def lutRow7 : List Sample := samples (
  [0, 6889, -13398, 19164, -23870, 27256, -29132, 29396, -28034, 25120, -20816, 15359, -9053, 2246, 4686, -11358] ++
  [17402, -22482, 26319, -28699, 29490, -28650, 26223, -22346, 17232, -11164, 4478, 2455, -9253, 15538, -20964, 25229] ++
  [-28098, 29412, -29099, 27175, -23747, 19004, -13210, 6685, 210, -7094, 13584, -19324, 23993, -27335, 29164, -29379] ++
  [27968, -25009, 20666, -15180, 8853, -2036, -4893, 11552, -17571, 22618, -26413, 28746, -29489, 28599, -26127, 22208] ++
  [-17061, 10969, -4271, -2664, 9452, -15716, 21111, -25337, 28161, -29427, 29064, -27092, 23621, -18843, 13022, -6480] ++
  [-420, 7297, -13771, 19482, -24115, 27413, -29194, 29360, -27901, 24897, -20516, 14999, -8652, 1827, 5100, -11745] ++
  [17739, -22752, 26506, -28792, 29486, -28547, 26029, -22070, 16889, -10774, 4063, 2874, -9651, 15894, -21257, 25444] ++
  [-28223, 29440, -29028, 27009, -23495, 18681, -12833, 6275, 630, -7501, 13956, -19639, 24235, -27490, 29223, -29340] ++
  [27832, -24784, 20364, -14818, 8451, -1617, -5307, 11937, -17907, 22885, -26597, 28837, -29481, 28494, -25929, 21930] ++
  [-16716, 10578, -3854, -3083, 9849, -16070, 21402, -25550, 28283, -29452, 28990, -26924, 23367, -18518, 12644, -6070] ++
  [-840, 7704, -14141, 19795, -24354, 27565, -29251, 29318, -27762, 24670, -20212, 14636, -8250, 1407, 5514, -12129])

/-- R41, R361: the whole tone table; entry `(s, n)` stands at address `176*s + n` (R60, R131). -/
def lut : List Sample :=
  lutRow0 ++ lutRow1 ++ lutRow2 ++ lutRow3 ++ lutRow4 ++ lutRow5 ++ lutRow6 ++ lutRow7

end Sys2Proof.Machine
end

