-- ==== Sys2Proof/Machine/State.lean ====
section
/-! DEFINITION. The state of the core (10_state.md R20 to R47) as plain data, the reasons a step stops, and the state
after reset (R45). INVENTORY.md lists every field with its rule. -/
namespace Sys2Proof.Machine

/-- `RXSEQ`, the receive sequencer state; codes 0 to 10 in this order (R23). Codes 11 to 15 are never entered (R49) and
have no value here (93_implementation_defined.md V4). Assumption log 24. -/
inductive RxSeq where
  | off | capture | goertzel | slice | scan | unpack | parse | filter | deliver | advance | trim
  deriving DecidableEq, Repr

/-- `TXSEQ`, the transmit sequencer state; codes 0 to 3 in this order (R24). -/
inductive TxSeq where
  | idle | frame | pack | play
  deriving DecidableEq, Repr

/-- `CMDSEQ`, the command decoder state: `C_OP`, `C_LEN`, `C_DATA`, codes 0 to 2 (R25). -/
inductive CmdSeq where
  | op | len | data
  deriving DecidableEq, Repr

/-- The storage spaces of R10 and R60. -/
inductive Space where
  | buf | lut | crom | txpay | user | syms | pbuf
  deriving DecidableEq, Repr

/-- The six causes of R281; the code of a cause is its bit number in `ERR` (R31). -/
inductive Cause where
  | startFail | sendStopped | sendBusy | cfgRunning | badLen | badCmd
  deriving DecidableEq, Repr

/-- A (sender, message) record: the candidate `CD_*` and the event `EV_*` (R37). -/
structure Record where
  slen : BitVec 5
  snd : Vector Byte 16
  mlen : BitVec 5
  msg : Vector Byte 16
  deriving DecidableEq, Repr

/-- Why a step ends in a fault. -/
inductive Fault where
  /-- An access outside the live range of a storage space; R60: "a model should make it a fault, not a value". Raised by
  `RX_APPEND`, `RX_GOERTZEL`, `RX_SLICE`, `RX_SCAN`, `RX_UNPACK`, `RX_PARSE`, `RX_FILTER`, `TX_FRAME`, `TX_PACK`, `TX_PLAY` and the
  tone reads. Safe: no execution performs such an access (R49). Assumption log 7. -/
  | memRange (space : Space)
  /-- The command staging registers hold no record that the transitions of R258 can build. Raised by the command decoder.
  Safe: no execution reaches it. Assumption log 16. -/
  | cmdStaging
  /-- `EVI` is past the last byte of the event record (R239). Raised by the event port. Safe: no execution reaches it.
  Assumption log 16. -/
  | evtIndex
  deriving DecidableEq, Repr

/-- Why a step is refused. -/
inductive Refusal where
  /-- An operation that has no meaning yet, raised by `exec`. No arm answers so. Safe. -/
  | notModelled (mnemonic : String)
  /-- A burst of more than `RD_MAX` samples; R63: "a model should refuse such a burst (it has no step)". Raised by
  `RX_APPEND`. Safe: it errs toward unprovable (R63). Assumption log 4. -/
  | burstTooLong
  deriving DecidableEq, Repr

/-- The state of the core, its ports, and what the model adds (INVENTORY.md, heading State). -/
structure State where
  /-- `RXSEQ` (R23). -/
  rxSeq : RxSeq
  /-- `TXSEQ` (R24). -/
  txSeq : TxSeq
  /-- `CMDSEQ` (R25). -/
  cmdSeq : CmdSeq
  /-- `RUN` (R27). -/
  run : Bool
  /-- `TX_BUSY` (R28). -/
  txBusy : Bool
  /-- `MATCH` (R29). -/
  matched : Bool
  /-- `MIDX` (R29). -/
  midx : BitVec 6
  /-- `PARSE_OK` (R29). -/
  parseOk : Bool
  /-- `EVT_VALID` (R30). -/
  evtValid : Bool
  /-- `EVI` (R30, R239). -/
  evi : BitVec 5
  /-- `ERR` (R31). -/
  err : BitVec 6
  /-- `USER[0..15]` (R32). -/
  user : Vector Byte 16
  /-- `ULEN` (R32). -/
  ulen : BitVec 5
  /-- `Q1[0..7]` (R21). -/
  q1 : Vector (BitVec 32) 8
  /-- `Q2[0..7]` (R21). -/
  q2 : Vector (BitVec 32) 8
  /-- `EN[0..7]` (R22). -/
  en : Vector (BitVec 64) 8
  /-- `DSYM` (R22). -/
  dsym : Symbol
  /-- `GN` (R26). -/
  gn : BitVec 8
  /-- `CIDX` (R26). -/
  cidx : BitVec 6
  /-- `TXSYMI` (R26). -/
  txSymI : BitVec 8
  /-- `TXN` (R26). -/
  txN : BitVec 8
  /-- `TXNSYM` (R26). -/
  txNSym : BitVec 8
  /-- `SYMS[0..49]` (R35). -/
  syms : Vector Symbol 50
  /-- `SCNT` (R35). -/
  scnt : BitVec 6
  /-- `PBUF[0..16]` (R36). -/
  pbuf : Vector Byte 17
  /-- `PCNT` (R36). -/
  pcnt : BitVec 5
  /-- The candidate record `CD_SLEN`, `CD_SND`, `CD_MLEN`, `CD_MSG` (R37). -/
  cd : Record
  /-- The event record `EV_SLEN`, `EV_SND`, `EV_MLEN`, `EV_MSG` (R37). -/
  ev : Record
  /-- `TXPAY[0..80]` (R38). -/
  txPay : Vector Byte 81
  /-- `TXLEN` (R38). -/
  txLen : BitVec 7
  /-- `CMDOP` (R39). -/
  cmdOp : Byte
  /-- `CMDLEN` (R39). -/
  cmdLen : Byte
  /-- `CMDCNT` (R39). -/
  cmdCnt : Byte
  /-- `CMDBUF[0..63]` (R39). -/
  cmdBuf : Vector Byte 64
  /-- `CMDSKIP` (R39). -/
  cmdSkip : Bool
  /-- `BUF`, oldest sample first; `BLEN` is its length (R40). Assumption log 19. -/
  buf : List Sample
  /-- The burst in progress: how many of its samples are already in `BUF`; 0 when no burst is open (R44, R350). -/
  burst : Nat
  /-- The message an accepted `SEND` handed to the transmit sequencer (R140). Assumption log 8. -/
  txMsg : List Byte
  /-- Pin `adc_ok` (R62). -/
  adcOk : Bool
  /-- Pin `dac_ok` (R64). -/
  dacOk : Bool
  /-- Pin `dac_ready` (R64). -/
  dacReady : Bool
  /-- Pin `rst` (R320): its level at the last clock edge. Assumption log 15. -/
  rst : Bool
  /-- The run of samples now on the ADC port; empty when none is (R62). Assumption log 10. -/
  adcData : List Sample
  /-- The final sample of that run carries `adc_last` (R62). -/
  adcLast : Bool
  /-- `RD_MAX` (R5, R350). Assumption log 3. -/
  rdMax : Nat
  /-- Output history (R352): the samples the DAC took with `dac_last`, newest first. Assumption log 12. -/
  dacOut : List (Sample × Bool)
  /-- Output history (R352): the event bytes the host took with `evt_last`, newest first. Assumption log 12. -/
  evtOut : List (Byte × Bool)
  /-- The model's own: the value the last tone read answered. Assumption log 11. -/
  toneOut : Sample
  /-- The model's own: the moves already scheduled, next one first. Assumption log 1. -/
  moves : List Move
  /-- The model's own: how many free moves were drawn. Assumption log 1. -/
  tick : Nat
  deriving DecidableEq, Repr

/-- `BLEN` (R40). -/
@[simp] abbrev State.blen (s : State) : Nat := s.buf.length

/-- A record register file that holds zeros (assumption log 5). -/
def Record.zero : Record := ⟨0, Vector.replicate 16 0, 0, Vector.replicate 16 0⟩

/-- R45: the state after reset. Where R45 says "unspecified" the value is zero (assumption log 5); the pins are low
(log 6); `RD_MAX` is the free value of Config (log 3). -/
def State.reset : State where
  rxSeq := .off
  txSeq := .idle
  cmdSeq := .op
  run := false
  txBusy := false
  matched := false
  midx := 0
  parseOk := false
  evtValid := false
  evi := 0
  err := 0
  user := Vector.replicate 16 0
  ulen := 0
  q1 := Vector.replicate 8 0
  q2 := Vector.replicate 8 0
  en := Vector.replicate 8 0
  dsym := 0
  gn := 0
  cidx := 0
  txSymI := 0
  txN := 0
  txNSym := 0
  syms := Vector.replicate 50 0
  scnt := 0
  pbuf := Vector.replicate 17 0
  pcnt := 0
  cd := Record.zero
  ev := Record.zero
  txPay := Vector.replicate 81 0
  txLen := 0
  cmdOp := 0
  cmdLen := 0
  cmdCnt := 0
  cmdBuf := Vector.replicate 64 0
  cmdSkip := false
  buf := []
  burst := 0
  txMsg := []
  adcOk := false
  dacOk := false
  dacReady := false
  rst := false
  adcData := []
  adcLast := false
  rdMax := Config.rdMax
  dacOut := []
  evtOut := []
  toneOut := 0
  moves := []
  tick := 0

end Sys2Proof.Machine
end

