-- ==== Sys2Proof/Machine/Ops.lean ====
section
/-! DEFINITION. The named operations over state: raising an error and clearing errors (R282, R256), reading and writing
the storage spaces (R60), the buffer operations (R161, R166, R207), the command staging registers (R39), the output
histories (R352), and reset (R320). -/
namespace Sys2Proof.Machine

/-! ### Errors: this hardware's exceptions -/

/-- R281: the code of a cause is its bit number in `ERR`. -/
def Cause.bit : Cause → Nat
  | .startFail => 0
  | .sendStopped => 1
  | .sendBusy => 2
  | .cfgRunning => 3
  | .badLen => 4
  | .badCmd => 5

/-- The bit of a cause as a mask over `ERR` (R281). -/
def Cause.mask (c : Cause) : BitVec 6 := 1#6 <<< c.bit

/-- Taking an exception, R282: `raise ERR.<name>` sets the named bit and nothing else happens. R289: no state is saved, no
mode changes, control goes nowhere. -/
def State.raise (s : State) (c : Cause) : State := { s with err := s.err ||| c.mask }

/-- The way back from an error, R291 and R256: the bits the mask selects fall; bits 7 and 6 of the mask are ignored. -/
def State.clearErr (s : State) (mask : Byte) : State := { s with err := s.err &&& ~~~(mask.setWidth 6) }

/-! ### Sequencers -/

/-- `RXSEQ <- q` (R10). -/
def State.goRx (s : State) (q : RxSeq) : State := { s with rxSeq := q }

/-- `TXSEQ <- q` (R10). -/
def State.goTx (s : State) (q : TxSeq) : State := { s with txSeq := q }

/-- The code of a receive sequencer state (R23). -/
def RxSeq.code : RxSeq → BitVec 4
  | .off => 0
  | .capture => 1
  | .goertzel => 2
  | .slice => 3
  | .scan => 4
  | .unpack => 5
  | .parse => 6
  | .filter => 7
  | .deliver => 8
  | .advance => 9
  | .trim => 10

/-- The receive sequencer state with this code, if the code is used (R23). -/
def RxSeq.ofCode (c : BitVec 4) : Option RxSeq :=
  match c.toNat with
  | 0 => some .off
  | 1 => some .capture
  | 2 => some .goertzel
  | 3 => some .slice
  | 4 => some .scan
  | 5 => some .unpack
  | 6 => some .parse
  | 7 => some .filter
  | 8 => some .deliver
  | 9 => some .advance
  | 10 => some .trim
  | _ => none

/-- The code of a transmit sequencer state (R24). -/
def TxSeq.code : TxSeq → BitVec 2
  | .idle => 0
  | .frame => 1
  | .pack => 2
  | .play => 3

/-- The transmit sequencer state with this code (R24). -/
def TxSeq.ofCode (c : BitVec 2) : TxSeq :=
  match c.toNat with
  | 1 => .frame
  | 2 => .pack
  | 3 => .play
  | _ => .idle

/-! ### Register files -/

/-- Writes the elements of a list at successive indices from `i` on; elements before, after and outside the file are
untouched. -/
def overwrite {α : Type} {n : Nat} (v : Vector α n) (i : Nat) : List α → Vector α n
  | [] => v
  | x :: xs => overwrite (v.setIfInBounds i x) (i + 1) xs

/-- The first `k` elements of a register file, where there are so many. -/
def live {α : Type} {n : Nat} (v : Vector α n) (k : Nat) : Option (List α) :=
  if k ≤ n then some (v.toList.take k) else none

/-- `USER[0:ULEN]`, the username (R32). -/
def State.username (s : State) : Option (List Byte) := live s.user s.ulen.toNat

/-- `SYMS[0:SCNT]`, the detected symbols of the attempt (R35). -/
def State.liveSyms (s : State) : Option (List Symbol) := live s.syms s.scnt.toNat

/-- `PBUF[0:PCNT]`, the recovered payload bytes (R36). -/
def State.livePbuf (s : State) : Option (List Byte) := live s.pbuf s.pcnt.toNat

/-- `TXPAY[0:TXLEN]`, the payload being transmitted (R38). -/
def State.liveTxPay (s : State) : Option (List Byte) := live s.txPay s.txLen.toNat

/-- The sender of a record (R37). -/
def Record.sender (r : Record) : List Byte := r.snd.toList.take r.slen.toNat

/-- The message of a record (R37). -/
def Record.message (r : Record) : List Byte := r.msg.toList.take r.mlen.toNat

/-- Stores a (sender, message) pair in a record; bytes past the new lengths keep what they held (assumption log 21). -/
def Record.store (r : Record) (snd msg : List Byte) : Record :=
  { slen := BitVec.ofNat 5 snd.length
    snd := overwrite r.snd 0 snd
    mlen := BitVec.ofNat 5 msg.length
    msg := overwrite r.msg 0 msg }

/-- The username register takes a new name (R254). -/
def State.setUser (s : State) (name : List Byte) : State :=
  { s with user := overwrite s.user 0 name, ulen := BitVec.ofNat 5 name.length }

/-! ### The ROMs -/

/-- R131: `MemRead(LUT, 176*s + n)`, `n` in 0..175 (R60). -/
def lutRead (s : Symbol) (n : Nat) : Option Sample :=
  if n < Config.chunkLen then lut[176 * s.toNat + n]? else none

/-! ### The sample buffer -/

/-- `BUF_CAP` (R5, R40). -/
def State.bufCap (s : State) : Nat := Config.trimHi + s.rdMax

/-- R161: `BUF <- BUF ++ burst`. -/
def State.append (s : State) (xs : List Sample) : State := { s with buf := s.buf ++ xs }

/-- R207, R166: drops the `k` oldest samples. -/
def State.dropOldest (s : State) (k : Nat) : State := { s with buf := s.buf.drop k }

/-- R70, R182: chunk `c` is `BUF[176*c .. 176*c + 175]`; none where the buffer does not hold all of it. -/
def State.chunk (s : State) (c : Nat) : Option (List Sample) :=
  if 176 * c + 176 ≤ s.blen then some ((s.buf.drop (176 * c)).take 176) else none

/-- The run on the ADC port has been taken: the port is empty again (R62). -/
def State.adcTaken (s : State) : State := { s with adcData := [], adcLast := false }

/-! ### Output histories (R352) -/

/-- `dac.push(v, last)` (R11, R146): the DAC has taken one sample. -/
def State.dacPush (s : State) (v : Sample) (last : Bool) : State := { s with dacOut := (v, last) :: s.dacOut }

/-- One byte of the event record has been transferred to the host (R239). -/
def State.evtPush (s : State) (b : Byte) (last : Bool) : State := { s with evtOut := (b, last) :: s.evtOut }

/-! ### Reset -/

/-- R320, R321: one clock edge with `rst` = 1. Every piece of the core's state takes its value of R45; what belongs to the
environment (its pins, `rst` among them, its schedule, the parameter, what was already taken) stays. Assumption log 15. -/
def State.rstEdge (s : State) : State :=
  { State.reset with
    adcOk := s.adcOk, dacOk := s.dacOk, dacReady := s.dacReady, rst := s.rst, rdMax := s.rdMax
    dacOut := s.dacOut, evtOut := s.evtOut, moves := s.moves, tick := s.tick }

end Sys2Proof.Machine
end

