-- ==== Sys2Proof/Machine/Operands.lean ====
section
/-! DEFINITION. Operand assembly: bytes to symbols and back (R96, R97), the frame's symbols (R143, R144), the detection
and payload windows (R201, R205), the candidate of a payload (R223) and the bytes of an event record (R100). -/
namespace Sys2Proof.Machine

/-! ### Bits, most significant first (R68) -/

/-- R96: bit `b` of a byte stream; 0 past its end. -/
def byteBit (bs : List Byte) (b : Nat) : Bool := (bs.getD (b / 8) 0).getLsbD (7 - b % 8)

/-- R97: bit `b` of a symbol stream; 0 past its end. -/
def symBit (ps : List Symbol) (b : Nat) : Bool := (ps.getD (b / 3) 0).getLsbD (2 - b % 3)

/-- R96: `4*x + 2*y + z`. -/
def symOfBits (x y z : Bool) : Symbol := BitVec.ofNat 3 (4 * x.toNat + 2 * y.toNat + z.toNat)

/-- R97: byte `m` is the sum over `t` in 0..7 of `bit(8m + t) * 2^(7-t)`. -/
def byteOfBits (bit : Nat → Bool) (m : Nat) : Byte :=
  BitVec.ofNat 8 (((List.range 8).map fun t => (bit (8 * m + t)).toNat * 2 ^ (7 - t)).sum)

/-- `ceil(8*L/3)`: the payload symbols of `L` bytes (R93, R96). -/
def paySyms (len : Nat) : Nat := (8 * len + 2) / 3

/-- R96: `PACK`, bytes to symbols, zero bits filling the last symbol. -/
def pack (bs : List Byte) : List Symbol :=
  (List.range (paySyms bs.length)).map fun j =>
    symOfBits (byteBit bs (3 * j)) (byteBit bs (3 * j + 1)) (byteBit bs (3 * j + 2))

/-- R97: `UNPACK`, symbols to bytes, the bits after the last whole byte dropped. -/
def unpack (ps : List Symbol) : List Byte := (List.range (3 * ps.length / 8)).map (byteOfBits (symBit ps))

/-! ### Transmit -/

/-- R141: `[len(sender)] ++ sender ++ message`. -/
def payload (sender msg : List Byte) : List Byte := BitVec.ofNat 8 sender.length :: (sender ++ msg)

/-- R143: `FSYM`, the preamble and then the packed payload. -/
def frameSyms (pay : List Byte) : List Symbol := Config.preamble ++ pack pay

/-- R147: `WAVE`, the sample sequence of a list of frame symbols; the phase restarts at every symbol (R132). -/
def wave (syms : List Symbol) : List Sample := syms.flatMap fun s => (lut.drop (176 * s.toNat)).take 176

/-! ### Receive -/

/-- R201: `M = min(BLEN div 176, 50)`, the chunks of an attempt. -/
def numChunks (blen : Nat) : Nat := min (blen / 176) Config.winChunks

/-- R205, R206: the payload window `SYMS[MIDX+4 : SCNT]`; it does not end with the frame, not even for the empty one of R141
(assumption log 33). -/
def payWindow (syms : List Symbol) (midx : Nat) : List Symbol := syms.drop (midx + 4)

/-- R207: how many samples an advance discards. -/
def advanceLen (midx blen : Nat) : Nat := min ((midx + 50) * 176) blen

/-- R223: the trailing 0x00 bytes of a message are removed. -/
def stripNul (bs : List Byte) : List Byte := (bs.reverse.dropWhile (· == 0#8)).reverse

/-- R284: why a candidate frame is dropped; the hardware keeps no trace of it. -/
inductive Discard where
  | dfShort | dfSlen | self | stopped
  deriving DecidableEq, Repr

/-- What the deframer makes of the payload bytes. -/
inductive Parsed where
  | frame (sender msg : List Byte)
  | discard (why : Discard)
  deriving DecidableEq, Repr

/-- R223: fewer than 2 bytes, then the sender length, then sender and stripped message. -/
def parsePayload (bs : List Byte) : Parsed :=
  match bs with
  | [] => .discard .dfShort
  | [_] => .discard .dfShort
  | l :: rest =>
    if rest.length < l.toNat then .discard .dfSlen
    else .frame (rest.take l.toNat) (stripNul (rest.drop l.toNat))

/-- R100: the bytes of the event record, in the order of the event port. -/
def Record.bytes (r : Record) : List Byte :=
  r.slen.setWidth 8 :: (r.sender ++ (r.mlen.setWidth 8 :: r.message))

end Sys2Proof.Machine
end

