-- ==== Sys2Proof/Machine/Flags.lean ====
section
/-! DEFINITION. The flags and decisions that operations compute: the preamble match (R203), the trigger (R162), the
self-filter comparison (R236), and the ready and valid conditions of the ports (R33, R62 to R67). -/
namespace Sys2Proof.Machine

/-- R203: the first index where four consecutive symbols are exactly 0,7,0,7. -/
def findPreamble : List Symbol → Option Nat
  | [] => none
  | a :: rest =>
    if (a :: rest).take 4 = Config.preamble then some 0
    else (findPreamble rest).map (· + 1)

/-- R162: an attempt is made exactly when `BLEN >= 30*N` after a complete burst. -/
def triggers (blen : Nat) : Bool := decide (Config.trigLen ≤ blen)

/-- R236: `same`: equal length registers and the same byte at every index. -/
def sameName (cd : Record) (ulen : BitVec 5) (name : List Byte) : Bool :=
  decide (cd.slen = ulen) && decide (cd.sender = name)

/-! ### Pins and port signals: views of state -/

/-- Pin `running` (R33). -/
def State.runningPin (s : State) : Bool := s.run
/-- Pin `tx_busy` (R33). -/
def State.txBusyPin (s : State) : Bool := s.txBusy
/-- Pins `err[5:0]` (R33). -/
def State.errPins (s : State) : BitVec 6 := s.err
/-- Pin `irq_evt` (R33, R288). -/
def State.irqEvt (s : State) : Bool := s.evtValid
/-- Pin `irq_err`, the OR of the six bits (R33, R288). -/
def State.irqErr (s : State) : Bool := s.err != 0
/-- `adc_ready` is 1 exactly when `RXSEQ` = `RX_CAPTURE` and `RUN` = 1 (R62); 0 while `rst` = 1 (R320). -/
def State.adcReady (s : State) : Bool := !s.rst && (s.run && decide (s.rxSeq = .capture))
/-- `cmd_ready` is 1 whenever `RUN` = 1 or `RXSEQ` = `RX_OFF` (R66, R250); 0 while `rst` = 1 (R320). -/
def State.cmdReady (s : State) : Bool := !s.rst && (s.run || decide (s.rxSeq = .off))
/-- R15, R149: the transmit sequencer is building a frame; it waits on nothing. -/
def State.txBuilding (s : State) : Bool :=
  match s.txSeq with
  | .idle => false
  | .frame => true
  | .pack => true
  | .play => false
/-- R149: the transmit sequencer's turn would not wait: it builds a frame, or a sample can leave, or the frame is to be cut. -/
def State.txReady (s : State) : Bool := s.txBuilding || (decide (s.txSeq = .play) && (s.dacReady || !s.run))
/-- `dac_valid` is 1 exactly when `TXSEQ` = `TX_PLAY` (R64); 0 while `rst` = 1 (R320). -/
def State.dacValid (s : State) : Bool := !s.rst && decide (s.txSeq = .play)
/-- R143: `FSYM(TXSYMI)`, the symbol being played; none where the payload or the index is out of range. -/
def State.fsym (s : State) : Option Symbol := s.liveTxPay.bind fun pay => (frameSyms pay)[s.txSymI.toNat]?
/-- R146: the sample that `TX_PLAY` offers, `TONE(FSYM(TXSYMI), TXN)`. -/
def State.dacData (s : State) : Option Sample := s.fsym.bind fun sym => lutRead sym s.txN.toNat
/-- R146: the counters stand on the final sample of the frame. The pin `dac_last` is `dacLastPin`. -/
def State.dacLast (s : State) : Bool := decide (s.txSymI.toNat + 1 = s.txNSym.toNat ∧ s.txN.toNat = 175)
/-- Pin `dac_data` (R64): the offered sample. While `dac_valid` is 0 the spec gives it no level and neither does the model
(assumption log 31). -/
def State.dacDataPin (s : State) : Option Sample := if s.dacValid then s.dacData else none
/-- Pin `dac_last` (R64): 1 with the final sample of a frame, not asserted for a frame that is cut (R148). That it is 0
whenever `dac_valid` is 0 is the model's choice (assumption log 31). -/
def State.dacLastPin (s : State) : Bool := s.dacValid && s.dacLast
/-- `evt_valid` = `EVT_VALID` (R67); 0 while `rst` = 1 (R320). -/
def State.evtValidPin (s : State) : Bool := !s.rst && s.evtValid
/-- R239: the byte of the record that `EVI` selects. -/
def State.evtData (s : State) : Option Byte := s.ev.bytes[s.evi.toNat]?
/-- R239: `EVI` selects the final byte of the record. The pin `evt_last` is `evtLastPin`. -/
def State.evtLast (s : State) : Bool := decide (s.evi.toNat + 1 = s.ev.bytes.length)
/-- Pin `evt_data` (R67): the offered byte. While `evt_valid` is 0 the spec gives it no level and neither does the model
(assumption log 31). -/
def State.evtDataPin (s : State) : Option Byte := if s.evtValidPin then s.evtData else none
/-- Pin `evt_last` (R67): 1 with the final byte of a record. That it is 0 whenever `evt_valid` is 0 is the model's choice
(assumption log 31). -/
def State.evtLastPin (s : State) : Bool := s.evtValidPin && s.evtLast

/-- R15, R168, R238: the receive sequencer is in an attempt and does not wait for the event register. -/
def State.rxBusy (s : State) : Bool :=
  match s.rxSeq with
  | .off => false
  | .capture => false
  | .goertzel => true
  | .slice => true
  | .scan => true
  | .unpack => true
  | .parse => true
  | .filter => true
  | .deliver => !(s.evtValid && s.run)
  | .advance => true
  | .trim => true

/-! ### The end of a run (R352) -/

/-- R352: the core is *quiescent*: `C_OP`, `TX_IDLE`, and `RX_OFF` or `RX_CAPTURE` with no burst open. A pending event is
allowed. -/
def State.quiescent (s : State) : Bool :=
  decide (s.cmdSeq = .op ∧ s.txSeq = .idle ∧ (s.rxSeq = .off ∨ (s.rxSeq = .capture ∧ s.burst = 0)))

/-- R352: the samples the DAC took, oldest first, each with its `dac_last`. -/
def State.dacHistory (s : State) : List (Sample × Bool) := s.dacOut.reverse

/-- Cuts a byte history, oldest first, after every byte marked last; `part` is the record being collected. -/
def cutRecords (part : List Byte) : List (Byte × Bool) → List (List Byte)
  | [] => []
  | (b, false) :: rest => cutRecords (part ++ [b]) rest
  | (b, true) :: rest => (part ++ [b]) :: cutRecords [] rest

/-- R352: the event records the host took whole, oldest first, each as the bytes of R100. Where a reset drops a record of
which the host had taken some bytes, the spec says nothing of those bytes: the model keeps them, and they stand before
the bytes of the next record taken, as part of the same item (assumption log 32). -/
def State.evtHistory (s : State) : List (List Byte) := cutRecords [] s.evtOut.reverse

end Sys2Proof.Machine
end

