-- ==== Sys2Proof/Machine/Detector.lean ====
section
/-! DEFINITION. The symbol detector (43_symbol_detector.md): the eight-channel Goertzel bank and the slicer, and the
meanings of `RX_GOERTZEL` (R182) and `RX_SLICE` (R186). -/
namespace Sys2Proof.Machine

open Host (Outcome)

/-- R9, R191: `asr(v, 14)`, floor division by 2^14, for negative `v` as well. -/
def asr14 (v : Int) : Int := v / 16384

/-- R182: one step of one channel, `(Q1, Q2)` to `(q0, Q1)`. The registers are signed 32-bit (R21); by R190 nothing ever
wraps. Assumption log 25. -/
def laneStep (coef : BitVec 16) (q : BitVec 32 × BitVec 32) (x : Sample) : BitVec 32 × BitVec 32 :=
  (BitVec.ofInt 32 (asr14 (coef.toInt * q.1.toInt) - q.2.toInt + x.toInt), q.1)

/-- R182, R183: a channel starts every chunk from zero and runs over its samples. -/
def laneRun (coef : BitVec 16) (xs : List Sample) : BitVec 32 × BitVec 32 := xs.foldl (laneStep coef) (0, 0)

/-- R182, R185: the energy of a channel, `re*re + im*im`, an unsigned 64-bit value (R22). -/
def laneEnergy (r : CromRow) (q : BitVec 32 × BitVec 32) : BitVec 64 :=
  let re := q.1.toInt - asr14 (q.2.toInt * r.cosw.toInt)
  let im := asr14 (q.2.toInt * r.sinw.toInt)
  BitVec.ofInt 64 (re * re + im * im)

/-- R182, R184: `Q1`, `Q2` and `EN` of all eight channels over one chunk. -/
def bankQ (xs : List Sample) (i : Fin 8) : BitVec 32 × BitVec 32 := laneRun (crom.get i).coef xs

/-- R182: `EN[s]` for a chunk. -/
def bankEnergy (xs : List Sample) (i : Fin 8) : BitVec 64 := laneEnergy (crom.get i) (bankQ xs i)

/-- R182: `RX_GOERTZEL(c)` with `c` = `CIDX`. `GN` ends at the last index (assumption log 14). -/
def execRxGoertzel (s : State) : Outcome State Fault Refusal :=
  match s.chunk s.cidx.toNat with
  | none => .fault (.memRange .buf)
  | some xs =>
    .next { s with
      q1 := Vector.ofFn fun i => (bankQ xs i).1
      q2 := Vector.ofFn fun i => (bankQ xs i).2
      en := Vector.ofFn (bankEnergy xs)
      gn := 175
      rxSeq := .slice }

/-- R186: the channel of greatest energy; ties keep the lower symbol. -/
def argmax (en : Vector (BitVec 64) 8) : Fin 8 :=
  [1, 2, 3, 4, 5, 6, 7].foldl (fun best s => if (en.get best).toNat < (en.get s).toNat then s else best) 0

/-- R186: the symbol the slicer picks. -/
def sliced (en : Vector (BitVec 64) 8) : Symbol := BitVec.ofNat 3 (argmax en).val

/-- R182, R186, R192: the symbol detected for a chunk, as a function of its samples alone. -/
def detect (xs : List Sample) : Symbol := sliced (Vector.ofFn (bankEnergy xs))

/-- R186: `RX_SLICE(c)` with `c` = `CIDX`. -/
def execRxSlice (s : State) : Outcome State Fault Refusal :=
  if s.cidx.toNat < 50 then
    let sym := sliced s.en
    let s := { s with
      dsym := sym
      syms := s.syms.setIfInBounds s.cidx.toNat sym
      scnt := s.cidx + 1 }
    if s.cidx.toNat + 1 < numChunks s.blen then .next { s with cidx := s.cidx + 1, rxSeq := .goertzel }
    else .next (s.goRx .scan)
  else .fault (.memRange .syms)

end Sys2Proof.Machine
end

