-- ==== Sys2Proof/Machine/Receive.lean ====
section
/-! DEFINITION. The meanings of the other receive operations: `RX_APPEND` (R161), `RX_SCAN` (R203), `RX_UNPACK` (R221),
`RX_PARSE` (R223), `RX_FILTER` (R236), `RX_DELIVER` (R238), `RX_ADVANCE` (R207), `RX_TRIM` (R166). -/
namespace Sys2Proof.Machine

open Host (Outcome)

/-- R161, R162, R168: where the receive sequencer goes once the run on the port is in `BUF`; `n` is the run's length. A trigger
leaves `MATCH` as it was, by R161, where R48 would have it fall with `SCNT` (assumption log 13). A run on the port of a
Stopped core goes to `RX_OFF` at once (log 23), and one without `adc_last` leaves the burst open (log 10). -/
def afterAppend (s : State) (n : Nat) : State :=
  if !s.run then { s with rxSeq := .off, burst := 0 }
  else if !s.adcLast then { s with burst := s.burst + n }
  else if triggers s.blen then { s with rxSeq := .goertzel, cidx := 0, scnt := 0, burst := 0 }
  else { s with rxSeq := .capture, burst := 0 }

/-- R161: `RX_APPEND` of the run of samples on the ADC port: a whole burst, or the part of one that its `adc_last` has
not ended yet (R44, assumption log 10). With no sample on the port it waits (R290, log 2), or leaves for `RX_OFF` if
`RUN` = 0 (R168, log 23). A burst of more than `RD_MAX` samples is refused (R63). -/
def execRxAppend (s : State) : Outcome State Fault Refusal :=
  match s.adcData with
  | [] => if s.run then .next s.adcTaken else .next { s.adcTaken with rxSeq := .off, burst := 0 }
  | x :: xs =>
    if s.rdMax < s.burst + (x :: xs).length then .refused .burstTooLong
    else if s.bufCap < s.blen + (x :: xs).length then .fault (.memRange .buf)
    else .next (afterAppend (s.append (x :: xs)) (x :: xs).length).adcTaken

/-- R203: `RX_SCAN`. `MIDX` is written on a match only (assumption log 26). -/
def execRxScan (s : State) : Outcome State Fault Refusal :=
  match s.liveSyms with
  | none => .fault (.memRange .syms)
  | some syms =>
    match findPreamble syms with
    | none => .next { s with matched := false, rxSeq := .trim }
    | some i => .next { s with matched := true, midx := BitVec.ofNat 6 i, rxSeq := .unpack }

/-- R221: `RX_UNPACK`. -/
def execRxUnpack (s : State) : Outcome State Fault Refusal :=
  match s.liveSyms with
  | none => .fault (.memRange .syms)
  | some syms =>
    let bytes := unpack (payWindow syms s.midx.toNat)
    if Config.payBytesMax < bytes.length then .fault (.memRange .pbuf)
    else .next { s with
      pbuf := overwrite s.pbuf 0 bytes
      pcnt := BitVec.ofNat 5 bytes.length
      rxSeq := .parse }

/-- R223: `RX_PARSE`. A discard is silent (R284) and leaves the candidate record alone. -/
def execRxParse (s : State) : Outcome State Fault Refusal :=
  match s.livePbuf with
  | none => .fault (.memRange .pbuf)
  | some bytes =>
    match parsePayload bytes with
    | .discard _ => .next { s with parseOk := false, rxSeq := .advance }
    | .frame snd msg => .next { s with cd := s.cd.store snd msg, parseOk := true, rxSeq := .filter }

/-- R236: `RX_FILTER`. -/
def execRxFilter (s : State) : Outcome State Fault Refusal :=
  match s.username with
  | none => .fault (.memRange .user)
  | some name => if sameName s.cd s.ulen name then .next (s.goRx .advance) else .next (s.goRx .deliver)

/-- R238: `RX_DELIVER`. It waits while an event is pending and the core runs (assumption log 2). -/
def execRxDeliver (s : State) : Outcome State Fault Refusal :=
  if !s.evtValid then
    .next { s with ev := s.ev.store s.cd.sender s.cd.message, evtValid := true, evi := 0, rxSeq := .advance }
  else if !s.run then .next (s.goRx .advance)
  else .next s

/-- R207: `RX_ADVANCE`. -/
def execRxAdvance (s : State) : Outcome State Fault Refusal :=
  .next ((s.dropOldest (advanceLen s.midx.toNat s.blen)).goRx .trim)

/-- R166: what a trim leaves of the buffer. -/
def trimmed (s : State) : State :=
  if Config.trimHi < s.blen then s.dropOldest (s.blen - Config.trimKeep) else s

/-- R166: `RX_TRIM`. -/
def execRxTrim (s : State) : Outcome State Fault Refusal :=
  if s.run then .next ((trimmed s).goRx .capture) else .next ((trimmed s).goRx .off)

end Sys2Proof.Machine
end

