-- ==== Sys2Proof/Machine/Command.lean ====
section
/-! DEFINITION. The meanings of the host commands (47_host_commands.md R251 to R256). A meaning is the command's one
atomic step; the decoder's own state is handled in Fetch.lean. -/
namespace Sys2Proof.Machine

open Host (Outcome)

/-- R251: `NOP` changes nothing. -/
def execNop (s : State) : Outcome State Fault Refusal := .next s

/-- R252: `START`. While Running no effect at all; with both devices the buffer is emptied and capture begins; otherwise
`START_FAIL` and nothing else. -/
def execStart (s : State) : Outcome State Fault Refusal :=
  if s.run then .next s
  else if s.adcOk && s.dacOk then
    .next { s with buf := [], burst := 0, matched := false, parseOk := false, rxSeq := .capture, run := true }
  else .next (s.raise .startFail)

/-- R253, R148: a frame being built or played is cut. R149 lists a cut from `TX_PLAY` only; from `TX_FRAME` and `TX_PACK` the
model follows R253 (assumption log 29). No step runs a `STOP` in these two
states (`State.buildsFirst`). -/
def cutFrame (s : State) : State := { s with txSeq := .idle, txBusy := false }

/-- R168, R253: from `RX_CAPTURE` the receive sequencer reaches `RX_OFF` at once, and an open burst is abandoned; an
attempt in progress goes on (R169). Assumption log 9. -/
def leaveCapture (s : State) : State :=
  if s.rxSeq = .capture then { s with rxSeq := .off, burst := 0 } else s

/-- R253: `STOP`; it cuts a frame in any state but `TX_IDLE` (assumption log 29). -/
def execStop (s : State) : Outcome State Fault Refusal :=
  if s.run then
    let s := { s with run := false }
    let s := if s.txSeq = .idle then s else cutFrame s
    .next (leaveCapture s)
  else .next s

/-- R254, R286: `SETUSER(name)`. -/
def execSetuser (name : List Byte) (s : State) : Outcome State Fault Refusal :=
  if Config.senderMax < name.length then .next (s.raise .badLen)
  else if s.run then .next (s.raise .cfgRunning)
  else .next (s.setUser name)

/-- R255, R286: `SEND(msg)`. An accepted message is handed to the transmit sequencer (R140). -/
def execSend (msg : List Byte) (s : State) : Outcome State Fault Refusal :=
  if Config.msgMax < msg.length then .next (s.raise .badLen)
  else if !s.run then .next (s.raise .sendStopped)
  else if s.txBusy then .next (s.raise .sendBusy)
  else .next { s with txBusy := true, txSeq := .frame, txMsg := msg }

/-- R256: `CLRERR(mask)`. -/
def execClrerr (mask : Byte) (s : State) : Outcome State Fault Refusal := .next (s.clearErr mask)

end Sys2Proof.Machine
end

