-- ==== Sys2Proof/Machine/Transmit.lean ====
section
/-! DEFINITION. The meanings of the transmit operations: `TX_FRAME` (R141), `TX_PACK` (R143), `TX_PLAY` (R146, R148), and
of the eight tone reads (R131). -/
namespace Sys2Proof.Machine

open Host (Outcome)

/-- R141: `TX_FRAME(msg)`. -/
def execTxFrame (s : State) : Outcome State Fault Refusal :=
  match s.username with
  | none => .fault (.memRange .user)
  | some name =>
    let pay := payload name s.txMsg
    if Config.txPayMax < pay.length then .fault (.memRange .txpay)
    else .next { s with txPay := overwrite s.txPay 0 pay, txLen := BitVec.ofNat 7 pay.length, txSeq := .pack }

/-- R143: `TX_PACK`. `FSYM` is a function of `TXPAY` and is not stored (R38, R143). -/
def execTxPack (s : State) : Outcome State Fault Refusal :=
  match s.liveTxPay with
  | none => .fault (.memRange .txpay)
  | some pay =>
    .next { s with txNSym := BitVec.ofNat 8 (frameSyms pay).length, txSymI := 0, txN := 0, txSeq := .play }

/-- R146: the counters and flags once the DAC has taken the offered sample. After the final sample the frame is over and
the counters stay (assumption log 14). -/
def afterSample (s : State) : State :=
  if s.dacLast then { s with txBusy := false, txSeq := .idle }
  else if s.txN.toNat = 175 then { s with txSymI := s.txSymI + 1, txN := 0 }
  else { s with txN := s.txN + 1 }

/-- R146: `TX_PLAY`, one pass of its inner loop: the cut (R148), the wait for `dac_ready` (assumption log 2), or one
sample handed to the DAC. -/
def execTxPlay (s : State) : Outcome State Fault Refusal :=
  if !s.run then .next (cutFrame s)
  else if !s.dacReady then .next s
  else
    match s.fsym with
    | none => .fault (.memRange .txpay)
    | some sym =>
      match lutRead sym s.txN.toNat with
      | none => .fault (.memRange .lut)
      | some v => .next (afterSample (s.dacPush v s.dacLast))

/-- R131: `TONE(s, n)` with `n` = `TXN`. It writes no state of the core; the value read stands in `toneOut`
(assumption log 11). -/
def toneRead (sym : Symbol) (s : State) : Outcome State Fault Refusal :=
  match lutRead sym s.txN.toNat with
  | none => .fault (.memRange .lut)
  | some v => .next { s with toneOut := v }

/-- R131: `TONE(0, n)`. -/
def execTone0 (s : State) : Outcome State Fault Refusal := toneRead 0 s

/-- R131: `TONE(1, n)`. -/
def execTone1 (s : State) : Outcome State Fault Refusal := toneRead 1 s

/-- R131: `TONE(2, n)`. -/
def execTone2 (s : State) : Outcome State Fault Refusal := toneRead 2 s

/-- R131: `TONE(3, n)`. -/
def execTone3 (s : State) : Outcome State Fault Refusal := toneRead 3 s

/-- R131: `TONE(4, n)`. -/
def execTone4 (s : State) : Outcome State Fault Refusal := toneRead 4 s

/-- R131: `TONE(5, n)`. -/
def execTone5 (s : State) : Outcome State Fault Refusal := toneRead 5 s

/-- R131: `TONE(6, n)`. -/
def execTone6 (s : State) : Outcome State Fault Refusal := toneRead 6 s

/-- R131: `TONE(7, n)`. -/
def execTone7 (s : State) : Outcome State Fault Refusal := toneRead 7 s

end Sys2Proof.Machine
end

