-- ==== Sys2Proof/Machine/Dispatch.lean ====
section
/-! DEFINITION. One arm per operation of R12: a direct call of its meaning. -/
namespace Sys2Proof.Machine

/-- The meaning of every operation. -/
def exec (i : Instr) (s : State) : Host.Outcome State Fault Refusal :=
  match i with
  | .nop => Sys2Proof.Machine.execNop s
  | .start => Sys2Proof.Machine.execStart s
  | .stop => Sys2Proof.Machine.execStop s
  | .setuser name => Sys2Proof.Machine.execSetuser name s
  | .send msg => Sys2Proof.Machine.execSend msg s
  | .clrerr mask => Sys2Proof.Machine.execClrerr mask s
  | .rxAppend => Sys2Proof.Machine.execRxAppend s
  | .rxGoertzel => Sys2Proof.Machine.execRxGoertzel s
  | .rxSlice => Sys2Proof.Machine.execRxSlice s
  | .rxScan => Sys2Proof.Machine.execRxScan s
  | .rxUnpack => Sys2Proof.Machine.execRxUnpack s
  | .rxParse => Sys2Proof.Machine.execRxParse s
  | .rxFilter => Sys2Proof.Machine.execRxFilter s
  | .rxDeliver => Sys2Proof.Machine.execRxDeliver s
  | .rxAdvance => Sys2Proof.Machine.execRxAdvance s
  | .rxTrim => Sys2Proof.Machine.execRxTrim s
  | .txFrame => Sys2Proof.Machine.execTxFrame s
  | .txPack => Sys2Proof.Machine.execTxPack s
  | .txPlay => Sys2Proof.Machine.execTxPlay s
  | .tone0 => Sys2Proof.Machine.execTone0 s
  | .tone1 => Sys2Proof.Machine.execTone1 s
  | .tone2 => Sys2Proof.Machine.execTone2 s
  | .tone3 => Sys2Proof.Machine.execTone3 s
  | .tone4 => Sys2Proof.Machine.execTone4 s
  | .tone5 => Sys2Proof.Machine.execTone5 s
  | .tone6 => Sys2Proof.Machine.execTone6 s
  | .tone7 => Sys2Proof.Machine.execTone7 s

end Sys2Proof.Machine
end

