-- ==== Sys2Proof/Machine/Fetch.lean ====
section
/-! DEFINITION. What a step does before it runs an operation: it takes the next move of the schedule (R14, assumption log
1), lets the port of that move transfer or wait, runs the command decoder over a command byte (R258), and reads the
operation that a sequencer's state code selects (R101). -/
namespace Sys2Proof.Machine

/-- What a move leads to. -/
inductive Fetched where
  /-- The operation `i` runs at the state `s`. -/
  | run (i : Instr) (s : State)
  /-- No operation runs. -/
  | idle (s : State)
  /-- The machine stops. -/
  | fault (f : Fault)
  deriving DecidableEq, Repr

/-- The move that stands next in the schedule, else a free one (assumption log 1). -/
def State.offered (s : State) : Move :=
  match s.moves with
  | m :: _ => m
  | [] => Config.freeMove s.tick

/-- A byte on the command port. -/
def isCommandByte : Move → Bool
  | .cmd _ => true
  | .adc _ _ => false
  | .rx => false
  | .tx => false
  | .tone _ => false
  | .evt => false
  | .pins _ _ => false
  | .dacReady _ => false
  | .rst _ => false

/-- R15: an accepted `SEND` and the construction of its frame are one step for the command port: while a frame is being
built, the transmit sequencer's turns come before the next byte of a command, so that a `STOP` meets `TX_FRAME` and
`TX_PACK` in no step (R149). Assumption log 29. -/
def State.buildsFirst (s : State) : Bool := s.txBuilding && s.cmdReady && isCommandByte s.offered

/-- The next move. -/
def State.nextMove (s : State) : Move := if s.buildsFirst then .tx else s.offered

/-- The schedule once its next move is taken; a turn of R15 that goes before it takes none. -/
def State.moveTaken (s : State) : State :=
  if s.buildsFirst then s
  else
    match s.moves with
    | _ :: ms => { s with moves := ms }
    | [] => { s with tick := s.tick + 1 }

/-! ### The command decoder (R250, R258) -/

/-- The bytes of the command record received so far (R39). -/
def State.record (s : State) : List Byte :=
  match s.cmdSeq with
  | .op => []
  | .len => [s.cmdOp]
  | .data => s.cmdOp :: s.cmdLen :: s.cmdBuf.toList.take s.cmdCnt.toNat

/-- R258, state `C_OP`. -/
def cmdByteOp (b : Byte) (s : State) : Fetched :=
  match decode (.cmd [b]) with
  | .ok i => .run i s
  | .rejected .incomplete => .idle { s with cmdOp := b, cmdSeq := .len }
  | .rejected _ => .idle (s.raise .badCmd)

/-- R258, state `C_LEN`: the operand byte; an illegal length raises `BAD_LEN` here and its data bytes are skipped. -/
def cmdByteLen (b : Byte) (s : State) : Fetched :=
  match decode (.cmd [s.cmdOp, b]) with
  | .ok i => .run i { s with cmdSeq := .op }
  | .rejected .incomplete => .idle { s with cmdLen := b, cmdCnt := 0, cmdSkip := false, cmdSeq := .data }
  | .rejected .badLen => .idle { s.raise .badLen with cmdLen := b, cmdCnt := 0, cmdSkip := true, cmdSeq := .data }
  | .rejected _ => .fault .cmdStaging

/-- R258: `CMDBUF[CMDCNT] <- b`, unless the bytes are skipped. -/
def State.stageByte (s : State) (b : Byte) : State :=
  if s.cmdSkip then s else { s with cmdBuf := s.cmdBuf.setIfInBounds s.cmdCnt.toNat b }

/-- R258, state `C_DATA`. -/
def cmdByteData (b : Byte) (s : State) : Fetched :=
  if !s.cmdSkip && decide (64 ≤ s.cmdCnt.toNat) then .fault .cmdStaging
  else if s.cmdCnt.toNat + 1 < s.cmdLen.toNat then .idle { s.stageByte b with cmdCnt := s.cmdCnt + 1 }
  else if s.cmdCnt.toNat + 1 = s.cmdLen.toNat then
    if s.cmdSkip then .idle { s with cmdSeq := .op }
    else
      match decode (.cmd (s.record ++ [b])) with
      | .ok i => .run i { s.stageByte b with cmdSeq := .op }
      | .rejected _ => .fault .cmdStaging
  else .fault .cmdStaging

/-- R258: one byte taken from the command port. -/
def cmdByte (b : Byte) (s : State) : Fetched :=
  match s.cmdSeq with
  | .op => cmdByteOp b s
  | .len => cmdByteLen b s
  | .data => cmdByteData b s

/-! ### The event port (R239) -/

/-- R239: the host takes one byte of the pending record. -/
def evtTake (s : State) : Fetched :=
  match s.evtData with
  | none => .fault .evtIndex
  | some b =>
    if s.evtLast then .idle { s.evtPush b true with evtValid := false, evi := 0 }
    else .idle { s.evtPush b false with evi := s.evi + 1 }

/-! ### One move -/

/-- R101: the operation that an encoding selects, run at `s`; a state that runs none leaves everything as it is. -/
def runCode (c : Code) (s : State) : Fetched :=
  match decode c with
  | .ok i => .run i s
  | .rejected _ => .idle s

/-- R320: whether the move is a clock edge with `rst` = 1, or is made while the pin still was 1. -/
def State.resets (s : State) (m : Move) : Bool := s.rst || decide (m = .rst true)

/-- What a move does to the pins that the environment drives. -/
def State.envMove (s : State) (m : Move) : State :=
  match m with
  | .pins a d => { s with adcOk := a, dacOk := d }
  | .dacReady r => { s with dacReady := r }
  | .rst level => { s with rst := level }
  | .cmd _ => s
  | .adc _ _ => s
  | .rx => s
  | .tx => s
  | .tone _ => s
  | .evt => s

/-- What one move does outside reset. An offer that the port is not ready for is not transferred and changes nothing (R62 to R67,
assumption log 2). -/
def activeMove (m : Move) (s : State) : Fetched :=
  match m with
  | .cmd b => if s.cmdReady then cmdByte b s else .idle s
  | .adc xs last =>
    if s.adcReady then runCode (.rxseq s.rxSeq.code) { s with adcData := xs, adcLast := last } else .idle s
  | .rx => runCode (.rxseq s.rxSeq.code) s
  | .tx => runCode (.txseq s.txSeq.code) s
  | .tone k => runCode (.sym k) s
  | .evt => if s.evtValid then evtTake s else .idle s
  | .pins _ _ => .idle (s.envMove m)
  | .dacReady _ => .idle (s.envMove m)
  | .rst _ => .idle (s.envMove m)

/-- What one move does. While `rst` is 1 the core stays in its reset state and no port transfers anything (R320); the pins
that the environment drives move all the same. -/
def fetchMove (m : Move) (s : State) : Fetched :=
  if s.resets m then .idle (s.rstEdge.envMove m) else activeMove m s

/-- The next move and what it leads to. -/
def fetch (s : State) : Fetched := fetchMove s.nextMove s.moveTaken

/-- What a fetched move ends in: the operation it runs, if any. -/
def runFetched : Fetched → Host.Outcome State Fault Refusal
  | .run i t => exec i t
  | .idle t => .next t
  | .fault f => .fault f

/-! ### Placing an operation where the next step fetches it -/

/-- The command record at the head of a byte stream, as far as R98 tells its length. -/
def recordOf (bytes : List Byte) : List Byte :=
  match decodeStream bytes with
  | .ok _ rest => bytes.take (bytes.length - rest.length)
  | .rejected .badLen => bytes.take 2
  | .rejected _ => bytes.take 1

/-- The state in which all bytes of a record but the last have been received and the last is the next move; the command
port is made ready if it is not (R66), and a frame being built is taken as built (R15). -/
def State.withRecord (s : State) (record : List Byte) : State :=
  let s := if s.cmdReady then s else { s with rxSeq := .off }
  let s := if s.txBuilding then { s with txSeq := .play } else s
  match record with
  | [] => s
  | [b] => { s with cmdSeq := .op, moves := .cmd b :: s.moves }
  | [op, b] => { s with cmdSeq := .len, cmdOp := op, moves := .cmd b :: s.moves }
  | op :: len :: b :: bs =>
    { s with
      cmdSeq := .data, cmdOp := op, cmdLen := len, cmdSkip := false
      cmdCnt := BitVec.ofNat 8 bs.length
      cmdBuf := overwrite s.cmdBuf 0 ((b :: bs).take bs.length)
      moves := .cmd ((b :: bs).getLast (by simp)) :: s.moves }

/-- The state in which the receive sequencer has this code and its turn is the next move. `RX_APPEND` also needs the core
Running and a burst, here one zero sample; `RX_GOERTZEL` needs its chunk in the buffer, here filled up with zero samples
(R182). A code with no state leaves the sequencer alone. -/
def State.withRxCode (s : State) (code : BitVec 4) : State :=
  match RxSeq.ofCode code with
  | none => s
  | some .capture =>
    { s with rxSeq := .capture, run := true, burst := 0, moves := .adc [0] true :: s.moves }
  | some .goertzel =>
    { s with
      rxSeq := .goertzel, moves := .rx :: s.moves
      buf := s.buf ++ List.replicate (176 * s.cidx.toNat + 176 - s.blen) 0 }
  | some q => { s with rxSeq := q, moves := .rx :: s.moves }

/-- The state, out of reset, in which a word of spec/opcode_table.json is what the next step fetches: its format is told by its width, as
in `decodeTableWord` (assumption log 17, log 18). -/
def placeWord (s : State) (nbits w : Nat) : State :=
  let s := { s with rst := false }
  if nbits = 4 ∨ rxByteWord nbits w then s.withRxCode (BitVec.ofNat 4 w)
  else if nbits = 2 then { s with txSeq := TxSeq.ofCode (BitVec.ofNat 2 w), moves := .tx :: s.moves }
  else if nbits = 3 then { s with moves := .tone (BitVec.ofNat 3 w) :: s.moves }
  else s.withRecord (recordOf (tableBytes nbits w))

end Sys2Proof.Machine
end

