-- ==== Sys2Proof/Machine/Step.lean ====
section
/-! DEFINITION. One step of the machine: one move, and the operation it runs. -/
namespace Sys2Proof.Machine

/-- One step: the next move (R14), then the operation it leads to, if any. -/
def step (s : State) : Host.Outcome State Fault Refusal :=
  runFetched (fetch s)

/-- `s` with the operation of a table word placed where the next step fetches it (assumption log 18). -/
def State.withFetchWord (s : State) (nbits w : Nat) : State := placeWord s nbits w

end Sys2Proof.Machine
end

