-- ==== Sys2Proof/Machine/Atomic.lean ====
section
/-! DEFINITION. The step of R15's granularity, over the same operations: one move of an outside agent with all that it makes
the core's own sequencers do, as one atomic step. At this grain the rule R48 holds word for word (assumption log 13). -/
namespace Sys2Proof.Machine

/-- R15: neither sequencer has anything to do before an outside agent moves. -/
def State.settled (s : State) : Bool := !s.rxBusy && !s.txBuilding

/-- One turn of a sequencer that has something to do: the construction of a frame first (R15; R76 gives the two sides no
order). -/
def ownTurn (s : State) : Host.Outcome State Fault Refusal :=
  if s.txBuilding then runFetched (activeMove .tx s) else runFetched (activeMove .rx s)

/-- The sequencers' own turns until both have nothing to do, `n` at most. -/
def settle : Nat → State → Host.Outcome State Fault Refusal
  | 0, s => .next s
  | n + 1, s =>
    if s.settled then .next s
    else
      match ownTurn s with
      | .next t => settle n t
      | .fault f => .fault f
      | .refused r => .refused r

/-- R15: a step and all that it causes. An attempt has at most 107 operations (R168) and a frame is built in two (R149). -/
def atomicStep (s : State) : Host.Outcome State Fault Refusal :=
  match step s with
  | .next t => settle 109 t
  | .fault f => .fault f
  | .refused r => .refused r

/-- The machine whose step is R15's. -/
def atomicCore : Host.Core :=
  { State := State, Fault := Fault, Refusal := Refusal, step := atomicStep, reset := State.reset }

end Sys2Proof.Machine
end

