-- ==== Sys2Proof/Machine/Stimulus.lean ====
section
/-! DEFINITION. The stimulus notation of R108 and R109, and the run of a finite list of stimulus lines with its end (R352),
in R15's steps. -/
namespace Sys2Proof.Machine

/-- A line of R108: one step of one outside agent. -/
inductive Line where
  /-- `PINS adc_ok=… dac_ok=…`. -/
  | pins (adcOk dacOk : Bool)
  /-- The bytes of a command record, as the host sends them. -/
  | command (record : List Byte)
  /-- `BURST`: one burst, `adc_last` on its final sample. -/
  | burst (xs : List Sample)
  /-- `DRAIN`: the DAC takes every sample of the frame being played. -/
  | drain
  /-- `TAKE`: the host takes every byte of the pending event record. -/
  | take
  deriving DecidableEq, Repr

/-- R239: how many bytes of the pending event record the host has not taken; 0 where no event is pending. -/
def State.evtLeft (s : State) : Nat := if s.evtValid then s.ev.bytes.length - s.evi.toNat else 0

/-- The moves of a line applied in the state `s` (R108); the core's own turns belong to the atomic steps that make them (R15,
R351). A `TAKE` takes the bytes of the record pending in `s` and no others, whatever is delivered once it is taken. A
`DRAIN` is as long as the longest frame, 220 symbols of 176 samples (R95); after the frame's final sample a turn changes
nothing, since only a command begins another frame. The DAC is ready during a `DRAIN` only. Assumption log 30. -/
def Line.moves (s : State) : Line → List Move
  | .pins a d => [.pins a d]
  | .command record => record.map .cmd
  | .burst xs => [.adc xs true]
  | .drain => .dacReady true :: (List.replicate (220 * 176) .tx ++ [.dacReady false])
  | .take => List.replicate s.evtLeft .evt

/-- The line of an operation that is a command (R108). -/
def Line.ofInstr (i : Instr) : Option Line :=
  match encode i with
  | .cmd record => some (.command record)
  | .rxseq _ => none
  | .txseq _ => none
  | .sym _ => none

/-- R109: `CLRALL` is `CLRERR 0x3F`. -/
def Line.clrAll : Line := .command [0x05#8, 0x3F#8]
/-- R109: `SILENCE(c)`. -/
def Line.silence (c : Nat) : Line := .burst (List.replicate (176 * c) 0)
/-- R109: `RESTART` is `STOP` then `START`. -/
def Line.restart : List Line := [.command [0x02#8], .command [0x01#8]]

/-- The run of one line, in atomic steps, from where the sequencers have taken the turns they have at `s`. -/
def runLine (l : Line) (s : State) : Host.Outcome State Fault Refusal :=
  match settle 109 s with
  | .next u => Host.Core.run atomicCore (l.moves u).length { u with moves := l.moves u }
  | .fault f => .fault f
  | .refused r => .refused r

/-- The run of a list of lines from a state, one line after another. -/
def runLines : List Line → State → Host.Outcome State Fault Refusal
  | [], s => .next s
  | l :: ls, s =>
    match runLine l s with
    | .next t => runLines ls t
    | .fault f => .fault f
    | .refused r => .refused r

/-- R352: the run of the lines is over and ends in `t`: every line has been applied and the core is quiescent. The end
state is `t` with its two histories. When a line is applied that can transfer nothing (a `BURST` while `adc_ready` is 0,
a command while `cmd_ready` is 0, a `TAKE` with no event pending, a `DRAIN` with no frame being played) R352 does not say:
here it counts as applied, and what it offers is lost (assumption log 30). -/
def RunEnds (ls : List Line) (s t : State) : Prop := runLines ls s = .next t ∧ t.quiescent = true

end Sys2Proof.Machine
end

