-- ==== Sys2Proof/Safety.lean ====
section
/-! DEFINITION. What a safe run is, in the terms the statements use: the invariants of R48 and R49, the exact-integer
detector of R190, the receive iteration as one function (R167), and runs over a given schedule. -/
namespace Sys2Proof.Safety

open Sys2Proof.Machine

/-! ### Launch premises (R350) -/

/-- `reset_state`: out of reset, and every piece of the core's state has its value of R45. The pins of the environment and
`RD_MAX` have any value. -/
def ResetState (s : State) : Prop := s.rst = false ∧ s.rstEdge = s
/-- `no_fault`: `ERR` = 0. -/
def NoFault (s : State) : Prop := s.err = 0
/-- `nothing_in_flight`: no command record open, no burst open, no frame playing, no event pending. -/
def NothingInFlight (s : State) : Prop := s.cmdSeq = .op ∧ s.burst = 0 ∧ s.txSeq = .idle ∧ s.evtValid = false
/-- `rd_max`: a value of at least 1. The premise `rom_contents` holds by definition, since the ROMs are constants. -/
def RdMaxGiven (s : State) : Prop := 1 ≤ s.rdMax

/-! ### Invariants -/

/-- R48, R49: what holds in every reachable state. R48's clause on `MATCH` is stated wherever the pseudocode of R161 and
R203 does not itself break it: between a trigger and the end of the scan it does (assumption log 13). After
every atomic step of R15 (`atomicStep`) the clause holds in full. -/
structure CoreInv (s : State) : Prop where
  /-- `ULEN <= 16`. -/
  ulen : s.ulen.toNat ≤ 16
  /-- `SCNT <= 50`. -/
  scnt : s.scnt.toNat ≤ 50
  /-- `PCNT <= 17`. -/
  pcnt : s.pcnt.toNat ≤ 17
  /-- `CD_SLEN + CD_MLEN <= 16` (R37). -/
  cdLen : s.cd.slen.toNat + s.cd.mlen.toNat ≤ 16
  /-- `EV_SLEN + EV_MLEN <= 16`. -/
  evLen : s.ev.slen.toNat + s.ev.mlen.toNat ≤ 16
  /-- `RD_MAX` is at least 1 (R5). -/
  rdMax : 1 ≤ s.rdMax
  /-- `BLEN <= BUF_CAP`. -/
  bufCap : s.blen ≤ s.bufCap
  /-- In `RX_CAPTURE`, what is above 17600 samples is the open burst. -/
  bufCapture : s.rxSeq = .capture → s.blen ≤ 17600 + s.burst
  /-- An open burst has at most `RD_MAX` samples (R63). -/
  burst : s.burst ≤ s.rdMax
  /-- A burst is open in `RX_CAPTURE` only (R44). -/
  burstOpen : s.burst ≠ 0 → s.rxSeq = .capture
  /-- No run of samples is left on the ADC port between steps. -/
  adcData : s.adcData = []
  /-- The chunk being filtered or sliced is one of the attempt's, and the list holds the ones before it (R163, R201). -/
  chunk : s.rxSeq = .goertzel ∨ s.rxSeq = .slice →
    s.cidx.toNat < numChunks s.blen ∧ s.scnt.toNat = s.cidx.toNat
  /-- `MATCH` = 1 and `MIDX + 4 <= SCNT` while the attempt uses them. -/
  matched : s.rxSeq = .unpack ∨ s.rxSeq = .parse ∨ s.rxSeq = .filter ∨ s.rxSeq = .deliver ∨ s.rxSeq = .advance →
    s.matched = true ∧ s.midx.toNat + 4 ≤ s.scnt.toNat
  /-- R48: `MATCH` = 1 implies `MIDX + 4 <= SCNT`, but while a new list is being built. -/
  matchList : s.matched = true → s.rxSeq ≠ .goertzel → s.rxSeq ≠ .slice → s.rxSeq ≠ .scan →
    s.midx.toNat + 4 ≤ s.scnt.toNat
  /-- `PARSE_OK` = 1 where the candidate is read (R49). -/
  parsed : s.rxSeq = .filter ∨ s.rxSeq = .deliver → s.parseOk = true
  /-- Running, the receive sequencer is not off (R303). -/
  running : s.run = true → s.rxSeq ≠ .off
  /-- Samples are taken only while Running (R62). -/
  capturing : s.rxSeq = .capture → s.run = true
  /-- `TX_BUSY` = 1 implies `RUN` = 1. -/
  busyRun : s.txBusy = true → s.run = true
  /-- `TX_BUSY` is 1 exactly while the transmit sequencer has a frame (R28, R149). -/
  busy : s.txBusy = true ↔ s.txSeq ≠ .idle
  /-- The message handed over has at most 64 bytes (R140). -/
  txMsg : s.txSeq = .frame → s.txMsg.length ≤ 64
  /-- `TXLEN` is 1 to 81 once the payload is built (R38). -/
  txLen : s.txSeq = .pack ∨ s.txSeq = .play → 1 ≤ s.txLen.toNat ∧ s.txLen.toNat ≤ 81
  /-- While playing, `TXNSYM` is the frame's length and `TXSYMI` is below it (R143, R146). -/
  play : s.txSeq = .play → s.txNSym.toNat = 4 + paySyms s.txLen.toNat ∧ s.txSymI.toNat < s.txNSym.toNat
  /-- `TXN` is 0 to 175 (R26). -/
  txN : s.txN.toNat ≤ 175
  /-- `EVI` names a byte of the record (R239). -/
  evi : s.evi.toNat < 2 + s.ev.slen.toNat + s.ev.mlen.toNat
  /-- `EVI` is 0 while no event is pending (R239). -/
  eviIdle : s.evtValid = false → s.evi = 0
  /-- While `rst` = 1 the core is in its reset state (R320). -/
  held : s.rst = true → s.rstEdge = s
  /-- In `C_LEN` the opcode is one that has an operand byte (R258). -/
  cmdLen : s.cmdSeq = .len → s.cmdOp = 3 ∨ s.cmdOp = 4 ∨ s.cmdOp = 5
  /-- In `C_DATA` the opcode has data bytes and some are owed (R258). -/
  cmdData : s.cmdSeq = .data → (s.cmdOp = 3 ∨ s.cmdOp = 4) ∧ s.cmdCnt.toNat < s.cmdLen.toNat
  /-- Data bytes that are not skipped fit the command's limit (R258). -/
  cmdFits : s.cmdSeq = .data → s.cmdSkip = false →
    (s.cmdOp = 3 → s.cmdLen.toNat ≤ 16) ∧ (s.cmdOp = 4 → s.cmdLen.toNat ≤ 64)

/-! ### Runs, fairness and duties (R351) -/

/-- An unending run: every state steps to the next. Where no move is scheduled a free one is made, so which runs are fair
is not the model's to say (assumption log 1): fairness is a premise of a claim about what comes about in the end. -/
def IsRun (r : Nat → State) : Prop := ∀ n, step (r n) = .next (r (n + 1))

/-- R351: the core's own sequencers are scheduled fairly: from every point of the run on, each of them gets a turn, unless
it comes to wait or to have nothing to do. It is the only fairness the spec asks of a schedule. -/
structure Fair (r : Nat → State) : Prop where
  /-- The receive sequencer, in an attempt that does not wait for the event register. -/
  rx : ∀ n, ∃ k, n ≤ k ∧ ((r k).nextMove = .rx ∨ (r k).rxBusy = false)
  /-- The transmit sequencer, while it builds a frame, while the DAC takes its samples, and where the frame is to be cut. -/
  tx : ∀ n, ∃ k, n ≤ k ∧ ((r k).nextMove = .tx ∨ (r k).txReady = false)

/-- R351: the duties of the outside agents, each of which ends a wait; no liberty does. The ADC and the environment's
pins have none. -/
structure Duties (r : Nat → State) : Prop where
  /-- The host finishes a command record it began. -/
  finishRecord : ∀ n, ∃ k, n ≤ k ∧ (r k).cmdSeq = .op
  /-- The host takes a pending event record, byte by byte. -/
  takeEvent : ∀ n, ∃ k, n ≤ k ∧ ((r k).nextMove = .evt ∨ (r k).evtValid = false)
  /-- The DAC takes the samples offered, each in a turn of the transmit sequencer. -/
  takeSamples : ∀ n, ∃ k, n ≤ k ∧ (((r k).dacReady = true ∧ (r k).nextMove = .tx) ∨ (r k).txSeq ≠ .play)

/-- R182 over unbounded integers: one step of a channel. -/
def exactStep (coef : Int) (q : Int × Int) (x : Sample) : Int × Int :=
  (coef * q.1 / 16384 - q.2 + x.toInt, q.1)

/-- R182, R183 over unbounded integers: a channel over a chunk, from zero. -/
def exactRun (coef : Int) (xs : List Sample) : Int × Int := xs.foldl (exactStep coef) (0, 0)

/-- R185 over unbounded integers: the energy of a channel. -/
def exactEnergy (cosw sinw : Int) (q : Int × Int) : Int :=
  (q.1 - q.2 * cosw / 16384) ^ 2 + (q.2 * sinw / 16384) ^ 2

/-- R190: the bound on `|Q1|` and `|Q2|`, channel by channel. -/
def laneBound : Vector Int 8 :=
  #v[5597713, 6124121, 6745794, 7658610, 8824605, 10502188, 11624640, 14843630]

/-- R163, R201: the symbol list of an attempt on a buffer. -/
def symbolsOf (b : List Sample) : List Symbol :=
  (List.range (min (b.length / 176) 50)).map fun c => detect ((b.drop (176 * c)).take 176)

/-- R163, R167: what an attempt on the buffer `b` advances by, and the frame it delivers for the username `u`. -/
def attempt (b : List Sample) (u : List Byte) : Nat × Option (List Byte × List Byte) :=
  match findPreamble (symbolsOf b) with
  | none => (0, none)
  | some i =>
    (min ((i + 50) * 176) b.length,
      match parsePayload (unpack ((symbolsOf b).drop (i + 4))) with
      | .discard _ => none
      | .frame snd msg => if snd = u then none else some (snd, msg))

/-- R167: the iteration as one function of the buffer, a burst and the username. -/
def iteration (b r : List Sample) (u : List Byte) : List Sample × Option (List Byte × List Byte) :=
  if (b ++ r).length < 5280 then (b ++ r, none)
  else
    let adv := (attempt (b ++ r) u).1
    let b2 := (b ++ r).drop adv
    (if 17600 < b2.length then b2.drop (b2.length - 8800) else b2, (attempt (b ++ r) u).2)

/-- `k` steps of the machine from `s` with the moves `ms` scheduled. -/
def runMoves (k : Nat) (ms : List Move) (s : State) : Host.Outcome State Fault Refusal :=
  Host.Core.run Sys2Proof.core k { s with moves := ms }

end Sys2Proof.Safety
end

