-- ==== Sys2Proof/Certificates/Slice0/Obligations.lean ====
section
/-! DEFINITION. The statements for the provers. OBLIGATIONS.json says for each what it claims and which rules of spec/ it
rests on. In a frame, `t = { s with f := t.f, … }` says that every field not listed is unchanged. -/

open Sys2Proof Sys2Proof.Machine Sys2Proof.Safety

/-! ### Encodings (R23, R24, R90, R91, R98, R99, R102) -/

/-- Decode and encode agree on every well-formed operation, at every operand. -/
def Obligations.DecodeInvertsEncode : Prop :=
  ∀ i : Instr, i.wellFormed = true → decode (encode i) = .ok i

/-- The other direction: what decodes is well formed and has exactly one encoding, so no two encodings overlap. -/
def Obligations.DecodedEncodingIsCanonical : Prop :=
  ∀ (c : Code) (i : Instr), decode c = .ok i → i.wellFormed = true ∧ encode i = c

/-- R98, R107: a command record tells its own length; whatever follows it in the byte stream is left over whole. -/
def Obligations.CommandRecordsDelimitThemselves : Prop :=
  ∀ (i : Instr) (r rest : List Byte), i.wellFormed = true → encode i = .cmd r →
    decodeStream (r ++ rest) = .ok i rest ∧
    r.length = match i with
      | .setuser name => 2 + name.length
      | .send msg => 2 + msg.length
      | .clrerr _ => 2
      | _ => 1

/-- Words of spec/opcode_table.json, written out from its encodings, and the operations they stand for. That the word's
width tells its format, and that zeros stand above a word's own bits (the two data bytes of the `SEND` word), is the
model's choice (assumption log 17). -/
def Obligations.TableWordsDecode : Prop :=
  decodeTableWord 8 0x00 = some .nop ∧
  decodeTableWord 8 0x01 = some .start ∧
  decodeTableWord 16 0x0003 = some (.setuser []) ∧
  decodeTableWord 16 0x0204 = some (.send [0x00#8, 0x00#8]) ∧
  decodeTableWord 16 0xA505 = some (.clrerr 0xA5#8) ∧
  decodeTableWord 4 0b0001 = some .rxAppend ∧
  decodeTableWord 4 0b1010 = some .rxTrim ∧
  decodeTableWord 2 0b01 = some .txFrame ∧
  decodeTableWord 2 0b11 = some .txPlay ∧
  decodeTableWord 3 0b101 = some .tone5

/-- R102, R99, R23, R24: reserved opcodes, illegal lengths and codes that select no operation are rejected by name. -/
def Obligations.BadEncodingsAreRejected : Prop :=
  (∀ (op : Byte) (rest : List Byte), 6 ≤ op.toNat → decode (.cmd (op :: rest)) = .rejected .reservedOpcode) ∧
  (∀ (len : Byte) (rest : List Byte), 16 < len.toNat → decode (.cmd (0x03#8 :: len :: rest)) = .rejected .badLen) ∧
  (∀ (len : Byte) (rest : List Byte), 64 < len.toNat → decode (.cmd (0x04#8 :: len :: rest)) = .rejected .badLen) ∧
  decode (.rxseq 0#4) = .rejected .noOperation ∧
  (∀ code : BitVec 4, 11 ≤ code.toNat → decode (.rxseq code) = .rejected .unusedCode) ∧
  decode (.txseq 0#2) = .rejected .noOperation

/-! ### A step runs the decoded operation (R101, R250, R258) -/

/-- R250, R258: when the byte on the command port completes a record that decodes to `i`, the step is `exec i` at the same
state but for the schedule, the decoder's state `C_OP`, and the byte just staged in `CMDBUF`. While a frame is being built
the byte waits for the transmit sequencer's turn, which is the step then (R15; assumption log 29). -/
def Obligations.StepRunsCompletedCommand : Prop :=
  ∀ (s : State) (b : Byte) (ms : List Move) (i : Instr),
    s.moves = .cmd b :: ms → s.cmdReady = true →
    (s.txBuilding = false → (s.cmdSeq = .data → s.cmdSkip = false) → decode (.cmd (s.record ++ [b])) = .ok i →
      ∃ u : State, step s = exec i u ∧
        u = { s with moves := ms, cmdSeq := .op, cmdBuf := u.cmdBuf } ∧
        (s.cmdSeq ≠ .data → u.cmdBuf = s.cmdBuf) ∧
        (s.cmdSeq = .data → ∀ j, j < 64 →
          u.cmdBuf[j]? = if j = s.cmdCnt.toNat then some b else s.cmdBuf[j]?)) ∧
    (s.txSeq = .frame → step s = exec .txFrame s) ∧
    (s.txSeq = .pack → step s = exec .txPack s)

/-- R101, R131: when the operation comes from a sequencer's state code or from a symbol, the step is `exec` of it at the
same state but for the schedule and, where the ADC makes the move, the run of samples on its port. Out of reset (R320). -/
def Obligations.StepRunsSequencerOperation : Prop :=
  (∀ (s : State) (ms : List Move) (i : Instr), s.moves = .rx :: ms → s.rst = false →
    decode (.rxseq s.rxSeq.code) = .ok i → step s = exec i { s with moves := ms }) ∧
  (∀ (s : State) (ms : List Move) (i : Instr), s.moves = .tx :: ms → s.rst = false →
    decode (.txseq s.txSeq.code) = .ok i → step s = exec i { s with moves := ms }) ∧
  (∀ (s : State) (ms : List Move) (k : BitVec 3) (i : Instr), s.moves = .tone k :: ms →
    s.rst = false →
    decode (.sym k) = .ok i → step s = exec i { s with moves := ms }) ∧
  (∀ (s : State) (ms : List Move) (xs : List Sample) (last : Bool) (i : Instr), s.moves = .adc xs last :: ms →
    s.adcReady = true → decode (.rxseq s.rxSeq.code) = .ok i →
    step s = exec i { s with moves := ms, adcData := xs, adcLast := last })

/-- R62, R64, R66, R67, R23, R24: a port that is not ready or not valid transfers nothing, and the states `RX_OFF` and
`TX_IDLE` run no operation. That such a turn is a step that changes nothing but the schedule is the model's choice
(assumption log 2). R62, R64, R320, R351: a move of the environment sets exactly its own pins. -/
def Obligations.IdleTurnsChangeNothing : Prop :=
  ∀ (s : State) (m : Move) (ms : List Move), s.moves = m :: ms → s.rst = false →
    (((∃ b, m = .cmd b) ∧ s.cmdReady = false) ∨ ((∃ xs last, m = .adc xs last) ∧ s.adcReady = false) ∨
      (m = .evt ∧ s.evtValid = false) ∨ (m = .rx ∧ s.rxSeq = .off) ∨ (m = .tx ∧ s.txSeq = .idle) →
      step s = .next { s with moves := ms }) ∧
    (∀ a d, m = .pins a d → step s = .next { s with moves := ms, adcOk := a, dacOk := d }) ∧
    (∀ r, m = .dacReady r → step s = .next { s with moves := ms, dacReady := r }) ∧
    (m = .rst false → step s = .next { s with moves := ms })

/-- R98, R250, R258: the bytes of a whole legal record, offered one after another from `C_OP`, have together exactly the
effect of its command, and nothing else but the staging registers of R39 changes before it. No frame is being built, whose
turns would go first (assumption log 29). -/
def Obligations.WholeRecordRunsItsCommand : Prop :=
  ∀ (s : State) (i : Instr) (r : List Byte),
    i.wellFormed = true → encode i = .cmd r → s.cmdSeq = .op → s.cmdReady = true → s.txBuilding = false →
    ∃ u : State, runMoves r.length (r.map .cmd) s = exec i u ∧
      u = { s with
        moves := [], cmdOp := u.cmdOp, cmdLen := u.cmdLen, cmdCnt := u.cmdCnt, cmdBuf := u.cmdBuf,
        cmdSkip := u.cmdSkip }

/-- R99: a record whose length byte is illegal raises `BAD_LEN`, its data bytes are consumed and thrown away, and the
decoder is back in `C_OP`; nothing else changes but the staging registers. No frame is being built (assumption log 29). -/
def Obligations.OverlongRecordIsSkippedWhole : Prop :=
  ∀ (s : State) (op len : Byte) (d : List Byte),
    (op = 0x03#8 ∧ 16 < len.toNat) ∨ (op = 0x04#8 ∧ 64 < len.toNat) → d.length = len.toNat →
    s.cmdSeq = .op → s.cmdReady = true → s.txBuilding = false →
    ∃ t : State, runMoves (2 + d.length) ((op :: len :: d).map .cmd) s = .next t ∧
      t = { s with
        moves := [], err := s.err ||| 0b010000#6, cmdOp := op, cmdLen := len, cmdCnt := t.cmdCnt, cmdSkip := true }

/-- R102: a reserved opcode byte in `C_OP` raises `BAD_CMD`, is consumed alone, and changes nothing else. No frame is being
built, whose turns would go first (assumption log 29). -/
def Obligations.ReservedOpcodeRaisesBadCmd : Prop :=
  ∀ (s : State) (b : Byte) (ms : List Move),
    s.moves = .cmd b :: ms → s.cmdReady = true → s.txBuilding = false → s.cmdSeq = .op → 6 ≤ b.toNat →
    step s = .next { s with moves := ms, err := s.err ||| 0b100000#6 }

/-! ### The commands (R251 to R256) and the errors (R282, R286) -/

/-- R251: `NOP` completes and changes nothing. -/
def Obligations.NopChangesNothing : Prop :=
  ∀ s : State, exec .nop s = .next s

/-- R252: `START` in its three cases. Closing an open burst count is the model's own (assumption log 10). -/
def Obligations.StartEntersRunningOrFails : Prop :=
  ∀ s : State,
    (s.run = true → exec .start s = .next s) ∧
    (s.run = false → s.adcOk = true → s.dacOk = true →
      exec .start s = .next { s with
        buf := [], burst := 0, matched := false, parseOk := false, rxSeq := .capture, run := true }) ∧
    (s.run = false → s.adcOk = false ∨ s.dacOk = false →
      exec .start s = .next { s with err := s.err ||| 0b000001#6 })

/-- R253: `STOP` while Stopped has no effect; while Running it clears `RUN`, cuts a frame being built or played, and takes
`RX_CAPTURE` to `RX_OFF` at once (in the same step, assumption log 9), while an attempt in progress goes on. The
cut from `TX_FRAME` and `TX_PACK` follows R253 where R149 lists none; no step runs a `STOP` there (assumption log 29). -/
def Obligations.StopLeavesRunning : Prop :=
  ∀ s : State,
    (s.run = false → exec .stop s = .next s) ∧
    (s.run = true → ∃ t : State, exec .stop s = .next t ∧
      t = { s with run := false, txSeq := .idle, txBusy := t.txBusy, rxSeq := t.rxSeq, burst := t.burst } ∧
      t.txBusy = (if s.txSeq = .idle then s.txBusy else false) ∧
      (s.rxSeq = .capture → t.rxSeq = .off ∧ t.burst = 0) ∧
      (s.rxSeq ≠ .capture → t.rxSeq = s.rxSeq ∧ t.burst = s.burst))

/-- R254, R286: `SETUSER` writes the name byte by byte and its length while Stopped, raises `CFG_RUNNING` while Running,
and `BAD_LEN` first of all for a name above 16 bytes. That the bytes above the new length stay is log 21, and
that the meaning itself raises `BAD_LEN` on a name that the decoder never hands over is log 22. -/
def Obligations.SetuserWritesTheName : Prop :=
  ∀ (s : State) (name : List Byte),
    (16 < name.length → exec (.setuser name) s = .next { s with err := s.err ||| 0b010000#6 }) ∧
    (name.length ≤ 16 → s.run = true → exec (.setuser name) s = .next { s with err := s.err ||| 0b001000#6 }) ∧
    (name.length ≤ 16 → s.run = false → ∃ t : State, exec (.setuser name) s = .next t ∧
      t = { s with user := t.user, ulen := t.ulen } ∧ t.ulen.toNat = name.length ∧
      ∀ j, j < 16 → t.user[j]? = if j < name.length then name[j]? else s.user[j]?)

/-- R255, R286: `SEND` is accepted while Running and not busy; else it raises the first error that applies. The
register `txMsg` is the model's (assumption log 8), and so is the meaning's `BAD_LEN` on a message that the decoder never
hands over (log 22). -/
def Obligations.SendIsAcceptedOrRefused : Prop :=
  ∀ (s : State) (msg : List Byte),
    (64 < msg.length → exec (.send msg) s = .next { s with err := s.err ||| 0b010000#6 }) ∧
    (msg.length ≤ 64 → s.run = false → exec (.send msg) s = .next { s with err := s.err ||| 0b000010#6 }) ∧
    (msg.length ≤ 64 → s.run = true → s.txBusy = true →
      exec (.send msg) s = .next { s with err := s.err ||| 0b000100#6 }) ∧
    (msg.length ≤ 64 → s.run = true → s.txBusy = false →
      exec (.send msg) s = .next { s with txBusy := true, txSeq := .frame, txMsg := msg })

/-- R256: `CLRERR` clears exactly the error bits its mask selects; mask bits 7 and 6 are ignored. -/
def Obligations.ClrerrClearsMaskedBits : Prop :=
  ∀ (s : State) (mask : Byte), ∃ t : State, exec (.clrerr mask) s = .next t ∧ t = { s with err := t.err } ∧
    ∀ j, j < 6 → t.err.getLsbD j = (s.err.getLsbD j && !mask.getLsbD j)

/-- R281, R282, R289: raising a cause sets the bit with its code, keeps the other five, and changes nothing else: no state
is saved, no mode changes, control goes nowhere. -/
def Obligations.RaiseSetsOneBitOnly : Prop :=
  ∀ (s : State) (c : Cause),
    s.raise c = { s with err := (s.raise c).err } ∧
    c.bit < 6 ∧ ∀ j, j < 6 → (s.raise c).err.getLsbD j = (decide (j = c.bit) || s.err.getLsbD j)

/-- R281, R282, R286: only `START`, `SETUSER` and `SEND` raise, each only its own causes, at most one, and an operation
that raises has no other effect; every other operation but `CLRERR` leaves `ERR` alone. R31: of every step that is no
reset, an `ERR` bit falls only by a `CLRERR` whose mask selects it, and `ERR` otherwise changes by one cause only, which
its command or the decoder, at its own byte, raises. The meanings' own `BAD_LEN` is log 22. -/
def Obligations.OperationRaisesAtMostOneError : Prop :=
  (∀ (i : Instr) (s t : State), exec i s = .next t → t.err ≠ s.err →
    (∃ mask, i = .clrerr mask) ∨
    ∃ c : Cause, t = s.raise c ∧
      ((i = .start ∧ c = .startFail) ∨
       ((∃ name, i = .setuser name) ∧ (c = .badLen ∨ c = .cfgRunning)) ∨
       ((∃ msg, i = .send msg) ∧ (c = .badLen ∨ c = .sendStopped ∨ c = .sendBusy)))) ∧
  (∀ s t : State, step s = .next t → s.resets s.nextMove = false →
    (∀ j, j < 6 → s.err.getLsbD j = true → t.err.getLsbD j = false →
      ∃ mask u, fetch s = .run (.clrerr mask) u ∧ mask.getLsbD j = true) ∧
    (t.err ≠ s.err → (∃ mask u, fetch s = .run (.clrerr mask) u) ∨
      ∃ (b : Byte) (c : Cause), s.nextMove = .cmd b ∧ t.err = s.err ||| c.mask ∧
        match c with
        | .startFail => ∃ u, fetch s = .run .start u
        | .sendStopped => ∃ msg u, fetch s = .run (.send msg) u
        | .sendBusy => ∃ msg u, fetch s = .run (.send msg) u
        | .cfgRunning => ∃ name u, fetch s = .run (.setuser name) u
        | .badLen => s.cmdSeq = .len ∧
            ((s.cmdOp = 0x03#8 ∧ 16 < b.toNat) ∨ (s.cmdOp = 0x04#8 ∧ 64 < b.toNat))
        | .badCmd => s.cmdSeq = .op ∧ 6 ≤ b.toNat))

/-! ### The capture loop (R161 to R171) -/

/-- R161, R162, R168: `RX_APPEND` with samples on the port. `BUF` grows by them in order; a complete burst fires the trigger
exactly from 5280 samples on; a part of a burst leaves the burst open (assumption log 10). That it goes to `RX_OFF` with
`RUN` = 0 whether or not the run carries `adc_last` is log 23. -/
def Obligations.AppendStoresTheBurst : Prop :=
  ∀ s : State, s.adcData ≠ [] → s.burst + s.adcData.length ≤ s.rdMax →
    s.blen + s.adcData.length ≤ 17600 + s.rdMax →
    (s.run = false → exec .rxAppend s = .next { s with
      buf := s.buf ++ s.adcData, rxSeq := .off, burst := 0, adcData := [], adcLast := false }) ∧
    (s.run = true → s.adcLast = false → exec .rxAppend s = .next { s with
      buf := s.buf ++ s.adcData, burst := s.burst + s.adcData.length, adcData := [], adcLast := false }) ∧
    (s.run = true → s.adcLast = true → 5280 ≤ s.blen + s.adcData.length → exec .rxAppend s = .next { s with
      buf := s.buf ++ s.adcData, rxSeq := .goertzel, cidx := 0, scnt := 0, burst := 0, adcData := [],
      adcLast := false }) ∧
    (s.run = true → s.adcLast = true → s.blen + s.adcData.length < 5280 → exec .rxAppend s = .next { s with
      buf := s.buf ++ s.adcData, rxSeq := .capture, burst := 0, adcData := [], adcLast := false })

/-- R63: a burst of more than `RD_MAX` samples is refused. R290, R168: with no sample on the port `RX_APPEND` waits while
Running, and leaves for `RX_OFF` otherwise (assumption log 2, log 23). -/
def Obligations.AppendRefusesAndWaits : Prop :=
  ∀ s : State,
    (s.adcData ≠ [] → s.rdMax < s.burst + s.adcData.length → exec .rxAppend s = .refused .burstTooLong) ∧
    (s.adcData = [] → s.run = true → exec .rxAppend s = .next { s with adcLast := false }) ∧
    (s.adcData = [] → s.run = false →
      exec .rxAppend s = .next { s with adcLast := false, rxSeq := .off, burst := 0 })

/-- R166: `RX_TRIM` above 17600 samples keeps the newest 8800, else all, and goes where `RUN` says. -/
def Obligations.TrimKeepsTheNewestSamples : Prop :=
  ∀ s : State, ∃ t : State, exec .rxTrim s = .next t ∧ t = { s with buf := t.buf, rxSeq := t.rxSeq } ∧
    (17600 < s.blen → t.blen = 8800 ∧ ∃ old, s.buf = old ++ t.buf) ∧
    (s.blen ≤ 17600 → t.buf = s.buf) ∧
    (s.run = true → t.rxSeq = .capture) ∧ (s.run = false → t.rxSeq = .off)

/-- R167: from `RX_CAPTURE` with no burst open and no event pending, one burst and the receive sequencer's turns compute
exactly the iteration function: its buffer and its event; nothing outside the receive side changes. -/
def Obligations.IterationMatchesItsFunction : Prop :=
  ∀ (s : State) (r : List Sample), CoreInv s → s.rxSeq = .capture → s.burst = 0 → s.evtValid = false →
    r ≠ [] → r.length ≤ s.rdMax →
    ∃ (k : Nat) (t : State), k ≤ 107 ∧
      runMoves (k + 1) (.adc r true :: List.replicate k .rx) s = .next t ∧
      t.rxSeq = .capture ∧ t.burst = 0 ∧
      t.buf = (iteration s.buf r (s.user.toList.take s.ulen.toNat)).1 ∧
      (∀ snd msg, (iteration s.buf r (s.user.toList.take s.ulen.toNat)).2 = some (snd, msg) →
        t.evtValid = true ∧ t.evi = 0 ∧ t.ev.sender = snd ∧ t.ev.message = msg) ∧
      ((iteration s.buf r (s.user.toList.take s.ulen.toNat)).2 = none → t.evtValid = false ∧ t.ev = s.ev) ∧
      t = { s with
        rxSeq := t.rxSeq, matched := t.matched, midx := t.midx, parseOk := t.parseOk, evtValid := t.evtValid,
        evi := t.evi, q1 := t.q1, q2 := t.q2, en := t.en, dsym := t.dsym, gn := t.gn, cidx := t.cidx,
        syms := t.syms, scnt := t.scnt, pbuf := t.pbuf, pcnt := t.pcnt, cd := t.cd, ev := t.ev, buf := t.buf,
        burst := t.burst, adcData := t.adcData, adcLast := t.adcLast, moves := [] }

/-- R169: after a `STOP` the receive sequencer reaches `RX_OFF` by its own turns alone, in a bounded number of them, whatever
the host and the devices do not do. -/
def Obligations.WindDownReachesOff : Prop :=
  ∀ s : State, CoreInv s → s.rst = false → s.run = false → ∃ (k : Nat) (t : State), k ≤ 107 ∧
    runMoves k (List.replicate k .rx) s = .next t ∧ t.rxSeq = .off ∧ t.run = false ∧ t.cmdReady = true

/-! ### The symbol detector (R182 to R190) -/

/-- R182: `RX_GOERTZEL` runs every channel from zero over the chunk and writes registers and energies; a chunk the buffer
does not hold is a fault (R60). That `GN` ends at 175 is log 14. -/
def Obligations.GoertzelFillsTheBank : Prop :=
  ∀ s : State,
    (176 * s.cidx.toNat + 176 ≤ s.blen → ∃ t : State, exec .rxGoertzel s = .next t ∧
      t = { s with q1 := t.q1, q2 := t.q2, en := t.en, gn := 175, rxSeq := .slice } ∧
      ∀ i : Fin 8,
        (t.q1.get i, t.q2.get i) = laneRun (crom.get i).coef ((s.buf.drop (176 * s.cidx.toNat)).take 176) ∧
        t.en.get i = laneEnergy (crom.get i) (t.q1.get i, t.q2.get i)) ∧
    (s.blen < 176 * s.cidx.toNat + 176 → exec .rxGoertzel s = .fault (.memRange .buf))

/-- R190: over unbounded integers the registers of every channel stay inside the bound of its row, after any number of
samples up to a chunk's. -/
def Obligations.LaneRegistersStayInBounds : Prop :=
  ∀ (i : Fin 8) (xs : List Sample), xs.length ≤ 176 →
    |(exactRun (crom.get i).coef.toInt xs).1| ≤ laneBound.get i ∧
    |(exactRun (crom.get i).coef.toInt xs).2| ≤ laneBound.get i

/-- R182, R190, R191: nothing wraps: the 32-bit and 64-bit registers hold the exact integers of the recurrence and of the
energy expression, and every energy is below 2^50. -/
def Obligations.DetectorRegistersAreExact : Prop :=
  ∀ (i : Fin 8) (xs : List Sample), xs.length = 176 →
    (bankQ xs i).1.toInt = (exactRun (crom.get i).coef.toInt xs).1 ∧
    (bankQ xs i).2.toInt = (exactRun (crom.get i).coef.toInt xs).2 ∧
    ((bankEnergy xs i).toNat : Int) =
      exactEnergy (crom.get i).cosw.toInt (crom.get i).sinw.toInt (exactRun (crom.get i).coef.toInt xs) ∧
    (bankEnergy xs i).toNat < 2 ^ 50

/-- R186: `RX_SLICE` picks the lowest-numbered channel of greatest energy, stores it at the chunk's index, counts the chunk
and goes to the next chunk or to the scan. -/
def Obligations.SlicePicksLowestMaximum : Prop :=
  ∀ s : State, s.cidx.toNat < 50 → ∃ (t : State) (best : Fin 8), exec .rxSlice s = .next t ∧
    t = { s with dsym := t.dsym, syms := t.syms, scnt := t.scnt, cidx := t.cidx, rxSeq := t.rxSeq } ∧
    t.dsym.toNat = best.val ∧
    (∀ j : Fin 8, (s.en.get j).toNat ≤ (s.en.get best).toNat) ∧
    (∀ j : Fin 8, j < best → (s.en.get j).toNat < (s.en.get best).toNat) ∧
    (∀ j, j < 50 → t.syms[j]? = if j = s.cidx.toNat then some t.dsym else s.syms[j]?) ∧
    t.scnt.toNat = s.cidx.toNat + 1 ∧
    (s.cidx.toNat + 1 < min (s.blen / 176) 50 → t.cidx.toNat = s.cidx.toNat + 1 ∧ t.rxSeq = .goertzel) ∧
    (min (s.blen / 176) 50 ≤ s.cidx.toNat + 1 → t.cidx = s.cidx ∧ t.rxSeq = .scan)

/-- R188: a chunk of zeros leaves every register and every energy zero, and the slicer then picks symbol 0. -/
def Obligations.SilenceDetectsAsSymbolZero : Prop :=
  (∀ (s : State), (s.buf.drop (176 * s.cidx.toNat)).take 176 = List.replicate 176 0 →
    ∃ t : State, exec .rxGoertzel s = .next t ∧
      ∀ i : Fin 8, t.q1.get i = 0 ∧ t.q2.get i = 0 ∧ t.en.get i = 0) ∧
  (∀ (s : State), s.cidx.toNat < 50 → (∀ i j : Fin 8, s.en.get i = s.en.get j) →
    ∃ t : State, exec .rxSlice s = .next t ∧ t.dsym = 0)

/-- R133: each segment of the tone table is detected as its own symbol, its energy at least 8 times any other's. -/
def Obligations.ToneSegmentsDetectAsThemselves : Prop :=
  ∀ k : BitVec 3, detect (wave [k]) = k ∧
    ∀ i : Fin 8, i.val ≠ k.toNat →
      8 * (bankEnergy (wave [k]) i).toNat ≤ (bankEnergy (wave [k]) k.toFin).toNat

/-! ### Frame synchronizer and deframer (R97, R203, R207, R221, R223) -/

/-- R203: `RX_SCAN` finds the first index where the four symbols 0, 7, 0, 7 stand in the list, or none. That
`MIDX` then keeps its value is log 26. -/
def Obligations.ScanFindsFirstPreamble : Prop :=
  ∀ s : State, s.scnt.toNat ≤ 50 →
    let hit := fun i : Nat => i + 4 ≤ s.scnt.toNat ∧ s.syms[i]? = some 0 ∧ s.syms[i + 1]? = some 7 ∧
      s.syms[i + 2]? = some 0 ∧ s.syms[i + 3]? = some 7
    (∀ i, hit i → (∀ j, j < i → ¬ hit j) →
      exec .rxScan s = .next { s with matched := true, midx := BitVec.ofNat 6 i, rxSeq := .unpack }) ∧
    ((∀ i, ¬ hit i) → exec .rxScan s = .next { s with matched := false, rxSeq := .trim })

/-- R97: unpacking packed bytes gives them back, for every byte sequence. -/
def Obligations.UnpackInvertsPack : Prop :=
  ∀ bs : List Byte, unpack (pack bs) = bs

/-- R221: `RX_UNPACK` recovers the whole bytes of the payload window, every bit from the symbol the rule names. That
the bytes from `PCNT` on stay is log 21. -/
def Obligations.UnpackRecoversWindowBytes : Prop :=
  ∀ s : State, s.scnt.toNat ≤ 50 → ∃ t : State, exec .rxUnpack s = .next t ∧
    t = { s with pbuf := t.pbuf, pcnt := t.pcnt, rxSeq := .parse } ∧
    t.pcnt.toNat = 3 * (s.scnt.toNat - (s.midx.toNat + 4)) / 8 ∧
    (∀ m, m < t.pcnt.toNat → ∀ u, u < 8 → ∃ (b : Byte) (y : BitVec 3),
      t.pbuf[m]? = some b ∧ s.syms[s.midx.toNat + 4 + (8 * m + u) / 3]? = some y ∧
      b.getLsbD (7 - u) = y.getLsbD (2 - (8 * m + u) % 3)) ∧
    (∀ m, t.pcnt.toNat ≤ m → t.pbuf[m]? = s.pbuf[m]?)

/-- R223, R104: `RX_PARSE` drops a payload in exactly two cases; else it splits it into sender and message and strips the
message's trailing 0x00 bytes. That bytes past the lengths keep what they held is the model's reading (log 21). -/
def Obligations.ParseSplitsThePayload : Prop :=
  ∀ s : State, s.pcnt.toNat ≤ 17 →
    let p := s.pcnt.toNat
    let l := s.pbuf[0].toNat
    (p < 2 ∨ p - 1 < l → exec .rxParse s = .next { s with parseOk := false, rxSeq := .advance }) ∧
    (2 ≤ p → l ≤ p - 1 → ∃ (t : State) (r : Nat), exec .rxParse s = .next t ∧
      t = { s with cd := t.cd, parseOk := true, rxSeq := .filter } ∧
      r ≤ p - 1 - l ∧ (∀ j, r ≤ j → j < p - 1 - l → s.pbuf[1 + l + j]? = some 0) ∧
      (0 < r → s.pbuf[l + r]? ≠ some 0) ∧
      t.cd.slen.toNat = l ∧ t.cd.mlen.toNat = r ∧
      (∀ j, j < 16 → t.cd.snd[j]? = if j < l then s.pbuf[1 + j]? else s.cd.snd[j]?) ∧
      (∀ j, j < 16 → t.cd.msg[j]? = if j < r then s.pbuf[1 + l + j]? else s.cd.msg[j]?))

/-- R207: `RX_ADVANCE` drops the oldest `min((MIDX + 50) * 176, BLEN)` samples and keeps the rest in order. -/
def Obligations.AdvanceDropsTheFrame : Prop :=
  ∀ s : State, exec .rxAdvance s =
    .next { s with buf := s.buf.drop (min ((s.midx.toNat + 50) * 176) s.blen), rxSeq := .trim }

/-! ### Self-filter, delivery and the event port (R236 to R239) -/

/-- R236: `RX_FILTER` drops exactly the candidates whose sender is the username, byte for byte; it writes `RXSEQ` only. -/
def Obligations.FilterDropsOwnName : Prop :=
  ∀ s : State, s.ulen.toNat ≤ 16 →
    let same := s.cd.slen = s.ulen ∧ ∀ j, j < s.ulen.toNat → s.cd.snd[j]? = s.user[j]?
    (same → exec .rxFilter s = .next { s with rxSeq := .advance }) ∧
    (¬ same → exec .rxFilter s = .next { s with rxSeq := .deliver })

/-- R238: `RX_DELIVER` copies the candidate into a free event record; with the record taken it drops the candidate once the
core is Stopped, and waits while it runs (a step that changes nothing, assumption log 2).
That record bytes past the lengths stay is log 21. -/
def Obligations.DeliverCopiesWaitsOrDrops : Prop :=
  ∀ s : State, s.cd.slen.toNat ≤ 16 → s.cd.mlen.toNat ≤ 16 →
    (s.evtValid = false → ∃ t : State, exec .rxDeliver s = .next t ∧
      t = { s with ev := t.ev, evtValid := true, evi := 0, rxSeq := .advance } ∧
      t.ev.slen = s.cd.slen ∧ t.ev.mlen = s.cd.mlen ∧
      (∀ j, j < 16 → t.ev.snd[j]? = if j < s.cd.slen.toNat then s.cd.snd[j]? else s.ev.snd[j]?) ∧
      (∀ j, j < 16 → t.ev.msg[j]? = if j < s.cd.mlen.toNat then s.cd.msg[j]? else s.ev.msg[j]?)) ∧
    (s.evtValid = true → s.run = false → exec .rxDeliver s = .next { s with rxSeq := .advance }) ∧
    (s.evtValid = true → s.run = true → exec .rxDeliver s = .next s)

/-- R239, R100: one transfer on the event port: the byte that `EVI` selects, with `evt_last` and the record's release on the
final byte. -/
def Obligations.EventPortTransfersOneByte : Prop :=
  ∀ (s : State) (ms : List Move), s.moves = .evt :: ms → s.rst = false → s.evtValid = true →
    s.ev.slen.toNat ≤ 16 → s.ev.mlen.toNat ≤ 16 → s.evi.toNat < 2 + s.ev.slen.toNat + s.ev.mlen.toNat →
    ∃ b : Byte,
      (s.evi.toNat = 0 → b.toNat = s.ev.slen.toNat) ∧
      (∀ j, j < s.ev.slen.toNat → s.evi.toNat = 1 + j → s.ev.snd[j]? = some b) ∧
      (s.evi.toNat = 1 + s.ev.slen.toNat → b.toNat = s.ev.mlen.toNat) ∧
      (∀ j, s.evi.toNat = 2 + s.ev.slen.toNat + j → s.ev.msg[j]? = some b) ∧
      (s.evi.toNat + 1 < 2 + s.ev.slen.toNat + s.ev.mlen.toNat →
        step s = .next { s with moves := ms, evtOut := (b, false) :: s.evtOut, evi := s.evi + 1 }) ∧
      (s.evi.toNat + 1 = 2 + s.ev.slen.toNat + s.ev.mlen.toNat →
        step s = .next { s with moves := ms, evtOut := (b, true) :: s.evtOut, evtValid := false, evi := 0 })

/-- R100, R239: taking a whole pending record gives its sender length, sender, message length and message in order, the
last byte marked, and leaves no event pending. The lengths are together at most 16 in every reachable state (R37). -/
def Obligations.TakeReadsTheWholeRecord : Prop :=
  ∀ s : State, s.rst = false → s.evtValid = true → s.evi = 0 → s.ev.slen.toNat + s.ev.mlen.toNat ≤ 16 →
    let bytes := BitVec.ofNat 8 s.ev.slen.toNat :: (s.ev.snd.toList.take s.ev.slen.toNat ++
      (BitVec.ofNat 8 s.ev.mlen.toNat :: s.ev.msg.toList.take s.ev.mlen.toNat))
    runMoves bytes.length (List.replicate bytes.length .evt) s = .next { s with
      moves := [], evtValid := false
      evtOut := (bytes.mapIdx fun j b => (b, decide (j + 1 = bytes.length))).reverse ++ s.evtOut }

/-- R37, R241, R321: while an event is pending no step but a reset changes its record, and only the host or a reset ends
the pending. -/
def Obligations.PendingEventIsFrozen : Prop :=
  ∀ s t : State, s.evtValid = true → step s = .next t → s.resets s.nextMove = false →
    t.ev = s.ev ∧ (t.evtValid = false → s.nextMove = .evt)

/-! ### Transmit (R131, R141 to R148) -/

/-- R131: the eight tone reads answer the table entry `LUT[176*s + n]` and write no state of the core. `n` = `TXN` and the
field `toneOut` are the model's (assumption log 11). -/
def Obligations.ToneReadsTheTable : Prop :=
  ∀ (s : State) (p : Instr × Nat),
    p ∈ [(Instr.tone0, 0), (.tone1, 1), (.tone2, 2), (.tone3, 3), (.tone4, 4), (.tone5, 5), (.tone6, 6), (.tone7, 7)] →
    (s.txN.toNat ≤ 175 → ∃ v : Sample, lut[176 * p.2 + s.txN.toNat]? = some v ∧
      exec p.1 s = .next { s with toneOut := v }) ∧
    (175 < s.txN.toNat → exec p.1 s = .fault (.memRange .lut))

/-- R141: `TX_FRAME` builds the payload: the sender length, the username, the message handed over. That the
bytes after it stay is log 21. -/
def Obligations.FrameBuildsThePayload : Prop :=
  ∀ s : State, s.ulen.toNat ≤ 16 → s.txMsg.length ≤ 64 →
    let u := s.ulen.toNat
    ∃ t : State, exec .txFrame s = .next t ∧ t = { s with txPay := t.txPay, txLen := t.txLen, txSeq := .pack } ∧
      t.txLen.toNat = 1 + u + s.txMsg.length ∧
      t.txPay[0]? = some (BitVec.ofNat 8 u) ∧
      (∀ j, j < u → t.txPay[1 + j]? = s.user[j]?) ∧
      (∀ j, j < s.txMsg.length → t.txPay[1 + u + j]? = s.txMsg[j]?) ∧
      (∀ j, 1 + u + s.txMsg.length ≤ j → t.txPay[j]? = s.txPay[j]?)

/-- R143: `TX_PACK` sets the number of symbols and the two counters. -/
def Obligations.PackSetsTheCounters : Prop :=
  ∀ s : State, s.txLen.toNat ≤ 81 → ∃ t : State, exec .txPack s = .next t ∧
    t = { s with txNSym := t.txNSym, txSymI := 0, txN := 0, txSeq := .play } ∧
    t.txNSym.toNat = 4 + (8 * s.txLen.toNat + 2) / 3

/-- R143, R144, R96: the frame symbol that `TXSYMI` selects: the preamble 0, 7, 0, 7, then three payload bits each, most
significant first, with zero bits after the payload's last. -/
def Obligations.FrameSymbolIsItsBits : Prop :=
  ∀ s : State, s.txLen.toNat ≤ 81 →
    let j := s.txSymI.toNat
    let bit := fun b : Nat => decide (b < 8 * s.txLen.toNat) && ((s.txPay[b / 8]?).getD 0).getLsbD (7 - b % 8)
    (j < 4 → s.fsym = some (if j % 2 = 0 then 0 else 7)) ∧
    (4 ≤ j → j < 4 + (8 * s.txLen.toNat + 2) / 3 → ∃ y : BitVec 3, s.fsym = some y ∧
      y.getLsbD 2 = bit (3 * (j - 4)) ∧ y.getLsbD 1 = bit (3 * (j - 4) + 1) ∧ y.getLsbD 0 = bit (3 * (j - 4) + 2)) ∧
    (4 + (8 * s.txLen.toNat + 2) / 3 ≤ j → s.fsym = none)

/-- R146, R148: `TX_PLAY`, one pass: cut when Stopped; wait while the DAC is not ready (log 2); else hand over the sample of
the current symbol with `dac_last` on the frame's final one, and count. That
`TXSYMI` and `TXN` keep their values at the frame's final sample is log 14. -/
def Obligations.PlayHandsOverOneSample : Prop :=
  ∀ s : State,
    (s.run = false → exec .txPlay s = .next { s with txSeq := .idle, txBusy := false }) ∧
    (s.run = true → s.dacReady = false → exec .txPlay s = .next s) ∧
    (s.run = true → s.dacReady = true → s.txLen.toNat ≤ 81 →
      s.txSymI.toNat < 4 + (8 * s.txLen.toNat + 2) / 3 → s.txN.toNat ≤ 175 →
      ∃ (y : BitVec 3) (v : Sample), s.fsym = some y ∧ lut[176 * y.toNat + s.txN.toNat]? = some v ∧
        (s.txSymI.toNat + 1 = s.txNSym.toNat → s.txN.toNat = 175 → exec .txPlay s = .next { s with
          dacOut := (v, true) :: s.dacOut, txBusy := false, txSeq := .idle }) ∧
        (s.txSymI.toNat + 1 ≠ s.txNSym.toNat → s.txN.toNat = 175 → exec .txPlay s = .next { s with
          dacOut := (v, false) :: s.dacOut, txSymI := s.txSymI + 1, txN := 0 }) ∧
        (s.txN.toNat < 175 → exec .txPlay s = .next { s with
          dacOut := (v, false) :: s.dacOut, txN := s.txN + 1 }))

/-- R146, R147: an accepted message, with the DAC taking every sample, is played as exactly the waveform of R147, `dac_last`
on its final sample only, and the transmitter is idle again. -/
def Obligations.WholeFrameIsItsWaveform : Prop :=
  ∀ s : State, s.rst = false → s.txSeq = .frame → s.run = true → s.dacReady = true → s.ulen.toNat ≤ 16 →
    s.txMsg.length ≤ 64 →
    let w := wave (frameSyms (payload (s.user.toList.take s.ulen.toNat) s.txMsg))
    w.length = 176 * (4 + (8 * (1 + s.ulen.toNat + s.txMsg.length) + 2) / 3) ∧
    ∃ t : State, runMoves (2 + w.length) (List.replicate (2 + w.length) .tx) s = .next t ∧
      t = { s with
        txPay := t.txPay, txLen := t.txLen, txNSym := t.txNSym, txSymI := t.txSymI, txN := t.txN,
        txSeq := .idle, txBusy := false, dacOut := t.dacOut, moves := [] } ∧
      t.dacOut = (w.mapIdx fun j v => (v, decide (j + 1 = w.length))).reverse ++ s.dacOut

/-- R133, R188, R97, R223: loopback. A transmitted frame of at most 17 payload bytes, alone at the start of the buffer and
followed by silence, is received as it was sent, unless its sender is the receiver's own name. With an empty username and
an empty message R141 says that every receiver drops the frame; by R206, R221 and R223 the silence after it is read as
payload and (empty, empty) is delivered, which the model follows (assumption log 33). -/
def Obligations.LoopbackDeliversTheFrame : Prop :=
  ∀ (u m name : List Byte) (k : Nat), 1 + u.length + m.length ≤ 17 → m.getLast? ≠ some 0 →
    let b := wave (frameSyms (payload u m)) ++ List.replicate k (0 : Sample)
    5280 ≤ b.length →
    (u ≠ name → (attempt b name).2 = some (u, m)) ∧ (u = name → (attempt b name).2 = none) ∧
    (attempt b name).1 = min 8800 b.length

/-! ### Stops -/

/-- R60: an access outside the live range of a storage space is a fault that names the space. -/
def Obligations.OutOfRangeAccessFaults : Prop :=
  ∀ s : State,
    (s.adcData ≠ [] → s.burst + s.adcData.length ≤ s.rdMax → 17600 + s.rdMax < s.blen + s.adcData.length →
      exec .rxAppend s = .fault (.memRange .buf)) ∧
    (50 ≤ s.cidx.toNat → exec .rxSlice s = .fault (.memRange .syms)) ∧
    (50 < s.scnt.toNat → exec .rxScan s = .fault (.memRange .syms) ∧ exec .rxUnpack s = .fault (.memRange .syms)) ∧
    (17 < s.pcnt.toNat → exec .rxParse s = .fault (.memRange .pbuf)) ∧
    (16 < s.ulen.toNat → exec .rxFilter s = .fault (.memRange .user) ∧ exec .txFrame s = .fault (.memRange .user)) ∧
    (s.ulen.toNat ≤ 16 → 80 < s.ulen.toNat + s.txMsg.length → exec .txFrame s = .fault (.memRange .txpay)) ∧
    (81 < s.txLen.toNat → exec .txPack s = .fault (.memRange .txpay)) ∧
    (s.run = true → s.dacReady = true →
      (81 < s.txLen.toNat ∨ 4 + (8 * s.txLen.toNat + 2) / 3 ≤ s.txSymI.toNat →
        exec .txPlay s = .fault (.memRange .txpay)) ∧
      (s.txLen.toNat ≤ 81 → s.txSymI.toNat < 4 + (8 * s.txLen.toNat + 2) / 3 → 175 < s.txN.toNat →
        exec .txPlay s = .fault (.memRange .lut)))

/-! ### Reset (R45, R320, R321) -/

/-- R45: the values that the spec gives for the state and the pins after reset; R350, R352: nothing is in flight and the core
is quiescent. -/
def Obligations.ResetValues : Prop :=
  let r := State.reset
  r.run = false ∧ r.rxSeq = .off ∧ r.txSeq = .idle ∧ r.cmdSeq = .op ∧ r.txBusy = false ∧ r.evtValid = false ∧
  r.err = 0 ∧ r.ulen = 0 ∧ r.buf = [] ∧ r.matched = false ∧ r.parseOk = false ∧ r.midx = 0 ∧ r.dsym = 0 ∧
  r.scnt = 0 ∧ r.pcnt = 0 ∧ r.gn = 0 ∧ r.cidx = 0 ∧ r.txSymI = 0 ∧ r.txN = 0 ∧ r.txNSym = 0 ∧ r.txLen = 0 ∧
  r.evi = 0 ∧ r.runningPin = false ∧ r.txBusyPin = false ∧ r.errPins = 0 ∧ r.irqEvt = false ∧ r.irqErr = false ∧
  r.adcReady = false ∧ r.dacValid = false ∧ r.evtValidPin = false ∧ r.cmdReady = true ∧ r.quiescent = true ∧
  NoFault r ∧ NothingInFlight r

/-- R320, R321: a clock edge with `rst` = 1 gives the whole core its reset state, whatever it held; while `rst` stays 1 only
the environment's own pins move and no port transfers anything; when `rst` falls the core is in its reset state with `cmd_ready` = 1. That
the environment's pins, `RD_MAX`, the histories and the schedule stay is the model's choice (assumption log 15). So are
the zeros of the registers that R45 calls unspecified (`USER`, `Q1`, `Q2`, `EN`, `SYMS`, `PBUF`, `CD_*`, `EV_*`, `TXPAY`, the
staging registers) and of the model's own `txMsg` and `toneOut` (assumption log 5, log 11, log 15). -/
def Obligations.ResetEdgeRestoresReset : Prop :=
  ∀ (s : State) (ms : List Move),
    let held := { State.reset with
      adcOk := s.adcOk, dacOk := s.dacOk, dacReady := s.dacReady, rst := true, rdMax := s.rdMax, dacOut := s.dacOut,
      evtOut := s.evtOut, moves := ms, tick := s.tick }
    (s.moves = .rst true :: ms → step s = .next held) ∧
    (∀ m, s.rst = true → s.moves = m :: ms → (∃ b, m = .cmd b) ∨ (∃ xs last, m = .adc xs last) ∨ m = .rx ∨ m = .tx ∨
      (∃ k, m = .tone k) ∨ m = .evt → step s = .next held) ∧
    (∀ a d, s.rst = true → s.moves = .pins a d :: ms → step s = .next { held with adcOk := a, dacOk := d }) ∧
    (∀ r, s.rst = true → s.moves = .dacReady r :: ms → step s = .next { held with dacReady := r }) ∧
    (s.rst = true → s.cmdReady = false ∧ s.adcReady = false ∧ s.dacValid = false ∧ s.evtValidPin = false) ∧
    (s.rst = true → s.moves = .rst false :: ms →
      step s = .next { held with rst := false } ∧ ({ held with rst := false } : State).cmdReady = true)

/-! ### Invariants and whole-machine rules -/

/-- The invariants of R48 and R49 hold after reset. -/
def Obligations.CoreInvHoldsAtReset : Prop :=
  CoreInv State.reset

/-- Every step keeps them, from every state that has them. After every atomic step of R15 R48's clause on `MATCH` holds in
full, and no frame is left half built (assumption log 13). -/
def Obligations.EveryStepKeepsCoreInv : Prop :=
  (∀ s t : State, CoreInv s → step s = .next t → CoreInv t) ∧
  (∀ s t : State, CoreInv s → atomicStep s = .next t → CoreInv t ∧
    (t.matched = true → t.midx.toNat + 4 ≤ t.scnt.toNat) ∧ (t.txSeq = .idle ∨ t.txSeq = .play))

/-- R49, R280: from a state with the invariants no step faults, and the only refusal is an over-long burst of the
environment (R63). -/
def Obligations.NoStepFaultsUnderCoreInv : Prop :=
  ∀ s : State, CoreInv s → (∃ t, step s = .next t) ∨
    (step s = .refused .burstTooLong ∧ ∃ xs last, s.nextMove = .adc xs last ∧ s.rdMax < s.burst + xs.length)

/-- R79, R237: the username changes only when a `SETUSER` runs in a Stopped core, or by reset. -/
def Obligations.UsernameChangesOnlyStopped : Prop :=
  ∀ s t : State, step s = .next t → t.user ≠ s.user ∨ t.ulen ≠ s.ulen →
    s.resets s.nextMove = true ∨ (s.run = false ∧ ∃ name u, fetch s = .run (.setuser name) u)

/-- R27, R303: Running is entered by a `START` with both devices available and left by `STOP` or reset, and by nothing
else; it is entered with an empty buffer. -/
def Obligations.RunChangesOnlyByStartStop : Prop :=
  ∀ s t : State, step s = .next t →
    (s.run = false → t.run = true →
      (∃ u, fetch s = .run .start u) ∧ s.adcOk = true ∧ s.dacOk = true ∧ t.buf = [] ∧ t.rxSeq = .capture) ∧
    (s.run = true → t.run = false → s.resets s.nextMove = true ∨ ∃ u, fetch s = .run .stop u)

/-- R62, R74, R303: samples enter the buffer only from the ADC port, in order, in `RX_CAPTURE` of a Running core. -/
def Obligations.SamplesEnterOnlyWhileCapturing : Prop :=
  ∀ s t : State, CoreInv s → step s = .next t → s.blen < t.blen →
    s.run = true ∧ s.rxSeq = .capture ∧ ∃ xs last, s.nextMove = .adc xs last ∧ t.buf = s.buf ++ xs

/-- R64, R151: only `TX_PLAY` drives the DAC port: a step that hands over a sample is one of it, in `TX_PLAY` of a Running
core with the DAC ready, and hands over exactly one. -/
def Obligations.OnlyPlayDrivesTheDac : Prop :=
  ∀ s t : State, step s = .next t → t.dacOut ≠ s.dacOut →
    s.run = true ∧ s.dacReady = true ∧ s.txSeq = .play ∧ (∃ u, fetch s = .run .txPlay u) ∧
    ∃ v last, t.dacOut = (v, last) :: s.dacOut ∧ s.dacDataPin = some v ∧ last = s.dacLastPin

/-- R28, R75, R148, R149: a frame begins only with an accepted `SEND` and ends only after its final sample, by a `STOP` or
by a reset; in between its message, its payload once built, and its length stay, the sequencer goes forward only, and
the counters move in `TX_PLAY` only by a sample handed over, one at a time. `TXSEQ` makes the transitions of R149 and no
other; that a `STOP` meets no frame being built is log 29. The message register `txMsg`, apart from
`CMDBUF`, is the model's (assumption log 8). -/
def Obligations.FrameInFlightIsUndisturbed : Prop :=
  ∀ s t : State, CoreInv s → step s = .next t →
    (s.txBusy = false → t.txBusy = true → s.run = true ∧ ∃ msg u, fetch s = .run (.send msg) u ∧ t.txMsg = msg) ∧
    (s.txBusy = true → t.txBusy = false → s.resets s.nextMove = true ∨
      (s.txSeq = .play ∧ ∃ u, fetch s = .run .stop u) ∨
      (s.txSeq = .play ∧ s.dacReady = true ∧ s.dacLastPin = true ∧ ∃ u, fetch s = .run .txPlay u)) ∧
    (s.txBusy = true → t.txBusy = true → t.txMsg = s.txMsg ∧
      (s.txSeq = .frame → t.txSeq = .frame ∨ t.txSeq = .pack) ∧
      (s.txSeq = .pack → (t.txSeq = .pack ∨ t.txSeq = .play) ∧ t.txPay = s.txPay ∧ t.txLen = s.txLen) ∧
      (s.txSeq = .play → t.txSeq = .play ∧ t.txPay = s.txPay ∧ t.txLen = s.txLen ∧ t.txNSym = s.txNSym ∧
        (t.txSymI ≠ s.txSymI ∨ t.txN ≠ s.txN → s.dacReady = true ∧ (∃ u, fetch s = .run .txPlay u) ∧
          ((s.txN.toNat < 175 ∧ t.txSymI = s.txSymI ∧ t.txN = s.txN + 1) ∨
            (s.txN = 175 ∧ t.txSymI = s.txSymI + 1 ∧ t.txN = 0))))) ∧
    (t.txSeq ≠ s.txSeq →
      (s.txSeq = .idle ∧ t.txSeq = .frame ∧ ∃ msg u, fetch s = .run (.send msg) u) ∨
      (s.txSeq = .frame ∧ t.txSeq = .pack ∧ ∃ u, fetch s = .run .txFrame u) ∨
      (s.txSeq = .pack ∧ t.txSeq = .play ∧ ∃ u, fetch s = .run .txPack u) ∨
      (s.txSeq = .play ∧ t.txSeq = .idle ∧ ((∃ u, fetch s = .run .txPlay u) ∨ ∃ u, fetch s = .run .stop u)) ∨
      (s.resets s.nextMove = true ∧ t.txSeq = .idle))

/-- R76, R140: the receive operations leave the transmit side and the control registers alone, and the transmit operations
and tone reads leave the receive side and the control registers alone. -/
def Obligations.SidesAreIndependent : Prop :=
  ∀ s t : State,
    (∀ i ∈ [Instr.rxAppend, .rxGoertzel, .rxSlice, .rxScan, .rxUnpack, .rxParse, .rxFilter, .rxDeliver, .rxAdvance,
        .rxTrim], exec i s = .next t →
      t = { s with
        rxSeq := t.rxSeq, matched := t.matched, midx := t.midx, parseOk := t.parseOk, evtValid := t.evtValid,
        evi := t.evi, q1 := t.q1, q2 := t.q2, en := t.en, dsym := t.dsym, gn := t.gn, cidx := t.cidx,
        syms := t.syms, scnt := t.scnt, pbuf := t.pbuf, pcnt := t.pcnt, cd := t.cd, ev := t.ev, buf := t.buf,
        burst := t.burst, adcData := t.adcData, adcLast := t.adcLast }) ∧
    (∀ i ∈ [Instr.txFrame, .txPack, .txPlay, .tone0, .tone1, .tone2, .tone3, .tone4, .tone5, .tone6, .tone7],
      exec i s = .next t →
      t = { s with
        txSeq := t.txSeq, txBusy := t.txBusy, txPay := t.txPay, txLen := t.txLen, txNSym := t.txNSym,
        txSymI := t.txSymI, txN := t.txN, dacOut := t.dacOut, toneOut := t.toneOut })

/-- R324, R303: in a Stopped core whose receive side is off, no sample is taken, none is sent, no event is produced, and no
frame begins, whatever the environment offers. -/
def Obligations.StoppedCoreIsQuiet : Prop :=
  ∀ s t : State, CoreInv s → s.run = false → s.rxSeq = .off → step s = .next t →
    t.blen ≤ s.blen ∧ t.dacOut = s.dacOut ∧ (t.evtValid = true → s.evtValid = true) ∧
    t.txSeq = .idle ∧ t.txBusy = false ∧ (t.rxSeq = .off ∨ t.run = true)
end

