-- ==== Sys2Proof/Laws/State.lean ====
section
/-! SUPPORT. One lemma per field per named update of the state, each true by rfl, so that no later proof unfolds a record
update. -/
namespace Sys2Proof.Machine

variable (s : State)

@[simp] theorem State.raise_rxSeq (c : Cause) : (s.raise c).rxSeq = s.rxSeq := rfl
@[simp] theorem State.raise_txSeq (c : Cause) : (s.raise c).txSeq = s.txSeq := rfl
@[simp] theorem State.raise_cmdSeq (c : Cause) : (s.raise c).cmdSeq = s.cmdSeq := rfl
@[simp] theorem State.raise_run (c : Cause) : (s.raise c).run = s.run := rfl
@[simp] theorem State.raise_txBusy (c : Cause) : (s.raise c).txBusy = s.txBusy := rfl
@[simp] theorem State.raise_matched (c : Cause) : (s.raise c).matched = s.matched := rfl
@[simp] theorem State.raise_midx (c : Cause) : (s.raise c).midx = s.midx := rfl
@[simp] theorem State.raise_parseOk (c : Cause) : (s.raise c).parseOk = s.parseOk := rfl
@[simp] theorem State.raise_evtValid (c : Cause) : (s.raise c).evtValid = s.evtValid := rfl
@[simp] theorem State.raise_evi (c : Cause) : (s.raise c).evi = s.evi := rfl
@[simp] theorem State.raise_err (c : Cause) : (s.raise c).err = s.err ||| c.mask := rfl
@[simp] theorem State.raise_user (c : Cause) : (s.raise c).user = s.user := rfl
@[simp] theorem State.raise_ulen (c : Cause) : (s.raise c).ulen = s.ulen := rfl
@[simp] theorem State.raise_q1 (c : Cause) : (s.raise c).q1 = s.q1 := rfl
@[simp] theorem State.raise_q2 (c : Cause) : (s.raise c).q2 = s.q2 := rfl
@[simp] theorem State.raise_en (c : Cause) : (s.raise c).en = s.en := rfl
@[simp] theorem State.raise_dsym (c : Cause) : (s.raise c).dsym = s.dsym := rfl
@[simp] theorem State.raise_gn (c : Cause) : (s.raise c).gn = s.gn := rfl
@[simp] theorem State.raise_cidx (c : Cause) : (s.raise c).cidx = s.cidx := rfl
@[simp] theorem State.raise_txSymI (c : Cause) : (s.raise c).txSymI = s.txSymI := rfl
@[simp] theorem State.raise_txN (c : Cause) : (s.raise c).txN = s.txN := rfl
@[simp] theorem State.raise_txNSym (c : Cause) : (s.raise c).txNSym = s.txNSym := rfl
@[simp] theorem State.raise_syms (c : Cause) : (s.raise c).syms = s.syms := rfl
@[simp] theorem State.raise_scnt (c : Cause) : (s.raise c).scnt = s.scnt := rfl
@[simp] theorem State.raise_pbuf (c : Cause) : (s.raise c).pbuf = s.pbuf := rfl
@[simp] theorem State.raise_pcnt (c : Cause) : (s.raise c).pcnt = s.pcnt := rfl
@[simp] theorem State.raise_cd (c : Cause) : (s.raise c).cd = s.cd := rfl
@[simp] theorem State.raise_ev (c : Cause) : (s.raise c).ev = s.ev := rfl
@[simp] theorem State.raise_txPay (c : Cause) : (s.raise c).txPay = s.txPay := rfl
@[simp] theorem State.raise_txLen (c : Cause) : (s.raise c).txLen = s.txLen := rfl
@[simp] theorem State.raise_cmdOp (c : Cause) : (s.raise c).cmdOp = s.cmdOp := rfl
@[simp] theorem State.raise_cmdLen (c : Cause) : (s.raise c).cmdLen = s.cmdLen := rfl
@[simp] theorem State.raise_cmdCnt (c : Cause) : (s.raise c).cmdCnt = s.cmdCnt := rfl
@[simp] theorem State.raise_cmdBuf (c : Cause) : (s.raise c).cmdBuf = s.cmdBuf := rfl
@[simp] theorem State.raise_cmdSkip (c : Cause) : (s.raise c).cmdSkip = s.cmdSkip := rfl
@[simp] theorem State.raise_buf (c : Cause) : (s.raise c).buf = s.buf := rfl
@[simp] theorem State.raise_burst (c : Cause) : (s.raise c).burst = s.burst := rfl
@[simp] theorem State.raise_txMsg (c : Cause) : (s.raise c).txMsg = s.txMsg := rfl
@[simp] theorem State.raise_adcOk (c : Cause) : (s.raise c).adcOk = s.adcOk := rfl
@[simp] theorem State.raise_dacOk (c : Cause) : (s.raise c).dacOk = s.dacOk := rfl
@[simp] theorem State.raise_dacReady (c : Cause) : (s.raise c).dacReady = s.dacReady := rfl
@[simp] theorem State.raise_rst (c : Cause) : (s.raise c).rst = s.rst := rfl
@[simp] theorem State.raise_adcData (c : Cause) : (s.raise c).adcData = s.adcData := rfl
@[simp] theorem State.raise_adcLast (c : Cause) : (s.raise c).adcLast = s.adcLast := rfl
@[simp] theorem State.raise_rdMax (c : Cause) : (s.raise c).rdMax = s.rdMax := rfl
@[simp] theorem State.raise_dacOut (c : Cause) : (s.raise c).dacOut = s.dacOut := rfl
@[simp] theorem State.raise_evtOut (c : Cause) : (s.raise c).evtOut = s.evtOut := rfl
@[simp] theorem State.raise_toneOut (c : Cause) : (s.raise c).toneOut = s.toneOut := rfl
@[simp] theorem State.raise_moves (c : Cause) : (s.raise c).moves = s.moves := rfl
@[simp] theorem State.raise_tick (c : Cause) : (s.raise c).tick = s.tick := rfl

@[simp] theorem State.clearErr_rxSeq (m : Byte) : (s.clearErr m).rxSeq = s.rxSeq := rfl
@[simp] theorem State.clearErr_txSeq (m : Byte) : (s.clearErr m).txSeq = s.txSeq := rfl
@[simp] theorem State.clearErr_cmdSeq (m : Byte) : (s.clearErr m).cmdSeq = s.cmdSeq := rfl
@[simp] theorem State.clearErr_run (m : Byte) : (s.clearErr m).run = s.run := rfl
@[simp] theorem State.clearErr_txBusy (m : Byte) : (s.clearErr m).txBusy = s.txBusy := rfl
@[simp] theorem State.clearErr_matched (m : Byte) : (s.clearErr m).matched = s.matched := rfl
@[simp] theorem State.clearErr_midx (m : Byte) : (s.clearErr m).midx = s.midx := rfl
@[simp] theorem State.clearErr_parseOk (m : Byte) : (s.clearErr m).parseOk = s.parseOk := rfl
@[simp] theorem State.clearErr_evtValid (m : Byte) : (s.clearErr m).evtValid = s.evtValid := rfl
@[simp] theorem State.clearErr_evi (m : Byte) : (s.clearErr m).evi = s.evi := rfl
@[simp] theorem State.clearErr_err (m : Byte) : (s.clearErr m).err = s.err &&& ~~~(m.setWidth 6) := rfl
@[simp] theorem State.clearErr_user (m : Byte) : (s.clearErr m).user = s.user := rfl
@[simp] theorem State.clearErr_ulen (m : Byte) : (s.clearErr m).ulen = s.ulen := rfl
@[simp] theorem State.clearErr_q1 (m : Byte) : (s.clearErr m).q1 = s.q1 := rfl
@[simp] theorem State.clearErr_q2 (m : Byte) : (s.clearErr m).q2 = s.q2 := rfl
@[simp] theorem State.clearErr_en (m : Byte) : (s.clearErr m).en = s.en := rfl
@[simp] theorem State.clearErr_dsym (m : Byte) : (s.clearErr m).dsym = s.dsym := rfl
@[simp] theorem State.clearErr_gn (m : Byte) : (s.clearErr m).gn = s.gn := rfl
@[simp] theorem State.clearErr_cidx (m : Byte) : (s.clearErr m).cidx = s.cidx := rfl
@[simp] theorem State.clearErr_txSymI (m : Byte) : (s.clearErr m).txSymI = s.txSymI := rfl
@[simp] theorem State.clearErr_txN (m : Byte) : (s.clearErr m).txN = s.txN := rfl
@[simp] theorem State.clearErr_txNSym (m : Byte) : (s.clearErr m).txNSym = s.txNSym := rfl
@[simp] theorem State.clearErr_syms (m : Byte) : (s.clearErr m).syms = s.syms := rfl
@[simp] theorem State.clearErr_scnt (m : Byte) : (s.clearErr m).scnt = s.scnt := rfl
@[simp] theorem State.clearErr_pbuf (m : Byte) : (s.clearErr m).pbuf = s.pbuf := rfl
@[simp] theorem State.clearErr_pcnt (m : Byte) : (s.clearErr m).pcnt = s.pcnt := rfl
@[simp] theorem State.clearErr_cd (m : Byte) : (s.clearErr m).cd = s.cd := rfl
@[simp] theorem State.clearErr_ev (m : Byte) : (s.clearErr m).ev = s.ev := rfl
@[simp] theorem State.clearErr_txPay (m : Byte) : (s.clearErr m).txPay = s.txPay := rfl
@[simp] theorem State.clearErr_txLen (m : Byte) : (s.clearErr m).txLen = s.txLen := rfl
@[simp] theorem State.clearErr_cmdOp (m : Byte) : (s.clearErr m).cmdOp = s.cmdOp := rfl
@[simp] theorem State.clearErr_cmdLen (m : Byte) : (s.clearErr m).cmdLen = s.cmdLen := rfl
@[simp] theorem State.clearErr_cmdCnt (m : Byte) : (s.clearErr m).cmdCnt = s.cmdCnt := rfl
@[simp] theorem State.clearErr_cmdBuf (m : Byte) : (s.clearErr m).cmdBuf = s.cmdBuf := rfl
@[simp] theorem State.clearErr_cmdSkip (m : Byte) : (s.clearErr m).cmdSkip = s.cmdSkip := rfl
@[simp] theorem State.clearErr_buf (m : Byte) : (s.clearErr m).buf = s.buf := rfl
@[simp] theorem State.clearErr_burst (m : Byte) : (s.clearErr m).burst = s.burst := rfl
@[simp] theorem State.clearErr_txMsg (m : Byte) : (s.clearErr m).txMsg = s.txMsg := rfl
@[simp] theorem State.clearErr_adcOk (m : Byte) : (s.clearErr m).adcOk = s.adcOk := rfl
@[simp] theorem State.clearErr_dacOk (m : Byte) : (s.clearErr m).dacOk = s.dacOk := rfl
@[simp] theorem State.clearErr_dacReady (m : Byte) : (s.clearErr m).dacReady = s.dacReady := rfl
@[simp] theorem State.clearErr_rst (m : Byte) : (s.clearErr m).rst = s.rst := rfl
@[simp] theorem State.clearErr_adcData (m : Byte) : (s.clearErr m).adcData = s.adcData := rfl
@[simp] theorem State.clearErr_adcLast (m : Byte) : (s.clearErr m).adcLast = s.adcLast := rfl
@[simp] theorem State.clearErr_rdMax (m : Byte) : (s.clearErr m).rdMax = s.rdMax := rfl
@[simp] theorem State.clearErr_dacOut (m : Byte) : (s.clearErr m).dacOut = s.dacOut := rfl
@[simp] theorem State.clearErr_evtOut (m : Byte) : (s.clearErr m).evtOut = s.evtOut := rfl
@[simp] theorem State.clearErr_toneOut (m : Byte) : (s.clearErr m).toneOut = s.toneOut := rfl
@[simp] theorem State.clearErr_moves (m : Byte) : (s.clearErr m).moves = s.moves := rfl
@[simp] theorem State.clearErr_tick (m : Byte) : (s.clearErr m).tick = s.tick := rfl

@[simp] theorem State.goRx_rxSeq (q : RxSeq) : (s.goRx q).rxSeq = q := rfl
@[simp] theorem State.goRx_txSeq (q : RxSeq) : (s.goRx q).txSeq = s.txSeq := rfl
@[simp] theorem State.goRx_cmdSeq (q : RxSeq) : (s.goRx q).cmdSeq = s.cmdSeq := rfl
@[simp] theorem State.goRx_run (q : RxSeq) : (s.goRx q).run = s.run := rfl
@[simp] theorem State.goRx_txBusy (q : RxSeq) : (s.goRx q).txBusy = s.txBusy := rfl
@[simp] theorem State.goRx_matched (q : RxSeq) : (s.goRx q).matched = s.matched := rfl
@[simp] theorem State.goRx_midx (q : RxSeq) : (s.goRx q).midx = s.midx := rfl
@[simp] theorem State.goRx_parseOk (q : RxSeq) : (s.goRx q).parseOk = s.parseOk := rfl
@[simp] theorem State.goRx_evtValid (q : RxSeq) : (s.goRx q).evtValid = s.evtValid := rfl
@[simp] theorem State.goRx_evi (q : RxSeq) : (s.goRx q).evi = s.evi := rfl
@[simp] theorem State.goRx_err (q : RxSeq) : (s.goRx q).err = s.err := rfl
@[simp] theorem State.goRx_user (q : RxSeq) : (s.goRx q).user = s.user := rfl
@[simp] theorem State.goRx_ulen (q : RxSeq) : (s.goRx q).ulen = s.ulen := rfl
@[simp] theorem State.goRx_q1 (q : RxSeq) : (s.goRx q).q1 = s.q1 := rfl
@[simp] theorem State.goRx_q2 (q : RxSeq) : (s.goRx q).q2 = s.q2 := rfl
@[simp] theorem State.goRx_en (q : RxSeq) : (s.goRx q).en = s.en := rfl
@[simp] theorem State.goRx_dsym (q : RxSeq) : (s.goRx q).dsym = s.dsym := rfl
@[simp] theorem State.goRx_gn (q : RxSeq) : (s.goRx q).gn = s.gn := rfl
@[simp] theorem State.goRx_cidx (q : RxSeq) : (s.goRx q).cidx = s.cidx := rfl
@[simp] theorem State.goRx_txSymI (q : RxSeq) : (s.goRx q).txSymI = s.txSymI := rfl
@[simp] theorem State.goRx_txN (q : RxSeq) : (s.goRx q).txN = s.txN := rfl
@[simp] theorem State.goRx_txNSym (q : RxSeq) : (s.goRx q).txNSym = s.txNSym := rfl
@[simp] theorem State.goRx_syms (q : RxSeq) : (s.goRx q).syms = s.syms := rfl
@[simp] theorem State.goRx_scnt (q : RxSeq) : (s.goRx q).scnt = s.scnt := rfl
@[simp] theorem State.goRx_pbuf (q : RxSeq) : (s.goRx q).pbuf = s.pbuf := rfl
@[simp] theorem State.goRx_pcnt (q : RxSeq) : (s.goRx q).pcnt = s.pcnt := rfl
@[simp] theorem State.goRx_cd (q : RxSeq) : (s.goRx q).cd = s.cd := rfl
@[simp] theorem State.goRx_ev (q : RxSeq) : (s.goRx q).ev = s.ev := rfl
@[simp] theorem State.goRx_txPay (q : RxSeq) : (s.goRx q).txPay = s.txPay := rfl
@[simp] theorem State.goRx_txLen (q : RxSeq) : (s.goRx q).txLen = s.txLen := rfl
@[simp] theorem State.goRx_cmdOp (q : RxSeq) : (s.goRx q).cmdOp = s.cmdOp := rfl
@[simp] theorem State.goRx_cmdLen (q : RxSeq) : (s.goRx q).cmdLen = s.cmdLen := rfl
@[simp] theorem State.goRx_cmdCnt (q : RxSeq) : (s.goRx q).cmdCnt = s.cmdCnt := rfl
@[simp] theorem State.goRx_cmdBuf (q : RxSeq) : (s.goRx q).cmdBuf = s.cmdBuf := rfl
@[simp] theorem State.goRx_cmdSkip (q : RxSeq) : (s.goRx q).cmdSkip = s.cmdSkip := rfl
@[simp] theorem State.goRx_buf (q : RxSeq) : (s.goRx q).buf = s.buf := rfl
@[simp] theorem State.goRx_burst (q : RxSeq) : (s.goRx q).burst = s.burst := rfl
@[simp] theorem State.goRx_txMsg (q : RxSeq) : (s.goRx q).txMsg = s.txMsg := rfl
@[simp] theorem State.goRx_adcOk (q : RxSeq) : (s.goRx q).adcOk = s.adcOk := rfl
@[simp] theorem State.goRx_dacOk (q : RxSeq) : (s.goRx q).dacOk = s.dacOk := rfl
@[simp] theorem State.goRx_dacReady (q : RxSeq) : (s.goRx q).dacReady = s.dacReady := rfl
@[simp] theorem State.goRx_rst (q : RxSeq) : (s.goRx q).rst = s.rst := rfl
@[simp] theorem State.goRx_adcData (q : RxSeq) : (s.goRx q).adcData = s.adcData := rfl
@[simp] theorem State.goRx_adcLast (q : RxSeq) : (s.goRx q).adcLast = s.adcLast := rfl
@[simp] theorem State.goRx_rdMax (q : RxSeq) : (s.goRx q).rdMax = s.rdMax := rfl
@[simp] theorem State.goRx_dacOut (q : RxSeq) : (s.goRx q).dacOut = s.dacOut := rfl
@[simp] theorem State.goRx_evtOut (q : RxSeq) : (s.goRx q).evtOut = s.evtOut := rfl
@[simp] theorem State.goRx_toneOut (q : RxSeq) : (s.goRx q).toneOut = s.toneOut := rfl
@[simp] theorem State.goRx_moves (q : RxSeq) : (s.goRx q).moves = s.moves := rfl
@[simp] theorem State.goRx_tick (q : RxSeq) : (s.goRx q).tick = s.tick := rfl

@[simp] theorem State.goTx_rxSeq (q : TxSeq) : (s.goTx q).rxSeq = s.rxSeq := rfl
@[simp] theorem State.goTx_txSeq (q : TxSeq) : (s.goTx q).txSeq = q := rfl
@[simp] theorem State.goTx_cmdSeq (q : TxSeq) : (s.goTx q).cmdSeq = s.cmdSeq := rfl
@[simp] theorem State.goTx_run (q : TxSeq) : (s.goTx q).run = s.run := rfl
@[simp] theorem State.goTx_txBusy (q : TxSeq) : (s.goTx q).txBusy = s.txBusy := rfl
@[simp] theorem State.goTx_matched (q : TxSeq) : (s.goTx q).matched = s.matched := rfl
@[simp] theorem State.goTx_midx (q : TxSeq) : (s.goTx q).midx = s.midx := rfl
@[simp] theorem State.goTx_parseOk (q : TxSeq) : (s.goTx q).parseOk = s.parseOk := rfl
@[simp] theorem State.goTx_evtValid (q : TxSeq) : (s.goTx q).evtValid = s.evtValid := rfl
@[simp] theorem State.goTx_evi (q : TxSeq) : (s.goTx q).evi = s.evi := rfl
@[simp] theorem State.goTx_err (q : TxSeq) : (s.goTx q).err = s.err := rfl
@[simp] theorem State.goTx_user (q : TxSeq) : (s.goTx q).user = s.user := rfl
@[simp] theorem State.goTx_ulen (q : TxSeq) : (s.goTx q).ulen = s.ulen := rfl
@[simp] theorem State.goTx_q1 (q : TxSeq) : (s.goTx q).q1 = s.q1 := rfl
@[simp] theorem State.goTx_q2 (q : TxSeq) : (s.goTx q).q2 = s.q2 := rfl
@[simp] theorem State.goTx_en (q : TxSeq) : (s.goTx q).en = s.en := rfl
@[simp] theorem State.goTx_dsym (q : TxSeq) : (s.goTx q).dsym = s.dsym := rfl
@[simp] theorem State.goTx_gn (q : TxSeq) : (s.goTx q).gn = s.gn := rfl
@[simp] theorem State.goTx_cidx (q : TxSeq) : (s.goTx q).cidx = s.cidx := rfl
@[simp] theorem State.goTx_txSymI (q : TxSeq) : (s.goTx q).txSymI = s.txSymI := rfl
@[simp] theorem State.goTx_txN (q : TxSeq) : (s.goTx q).txN = s.txN := rfl
@[simp] theorem State.goTx_txNSym (q : TxSeq) : (s.goTx q).txNSym = s.txNSym := rfl
@[simp] theorem State.goTx_syms (q : TxSeq) : (s.goTx q).syms = s.syms := rfl
@[simp] theorem State.goTx_scnt (q : TxSeq) : (s.goTx q).scnt = s.scnt := rfl
@[simp] theorem State.goTx_pbuf (q : TxSeq) : (s.goTx q).pbuf = s.pbuf := rfl
@[simp] theorem State.goTx_pcnt (q : TxSeq) : (s.goTx q).pcnt = s.pcnt := rfl
@[simp] theorem State.goTx_cd (q : TxSeq) : (s.goTx q).cd = s.cd := rfl
@[simp] theorem State.goTx_ev (q : TxSeq) : (s.goTx q).ev = s.ev := rfl
@[simp] theorem State.goTx_txPay (q : TxSeq) : (s.goTx q).txPay = s.txPay := rfl
@[simp] theorem State.goTx_txLen (q : TxSeq) : (s.goTx q).txLen = s.txLen := rfl
@[simp] theorem State.goTx_cmdOp (q : TxSeq) : (s.goTx q).cmdOp = s.cmdOp := rfl
@[simp] theorem State.goTx_cmdLen (q : TxSeq) : (s.goTx q).cmdLen = s.cmdLen := rfl
@[simp] theorem State.goTx_cmdCnt (q : TxSeq) : (s.goTx q).cmdCnt = s.cmdCnt := rfl
@[simp] theorem State.goTx_cmdBuf (q : TxSeq) : (s.goTx q).cmdBuf = s.cmdBuf := rfl
@[simp] theorem State.goTx_cmdSkip (q : TxSeq) : (s.goTx q).cmdSkip = s.cmdSkip := rfl
@[simp] theorem State.goTx_buf (q : TxSeq) : (s.goTx q).buf = s.buf := rfl
@[simp] theorem State.goTx_burst (q : TxSeq) : (s.goTx q).burst = s.burst := rfl
@[simp] theorem State.goTx_txMsg (q : TxSeq) : (s.goTx q).txMsg = s.txMsg := rfl
@[simp] theorem State.goTx_adcOk (q : TxSeq) : (s.goTx q).adcOk = s.adcOk := rfl
@[simp] theorem State.goTx_dacOk (q : TxSeq) : (s.goTx q).dacOk = s.dacOk := rfl
@[simp] theorem State.goTx_dacReady (q : TxSeq) : (s.goTx q).dacReady = s.dacReady := rfl
@[simp] theorem State.goTx_rst (q : TxSeq) : (s.goTx q).rst = s.rst := rfl
@[simp] theorem State.goTx_adcData (q : TxSeq) : (s.goTx q).adcData = s.adcData := rfl
@[simp] theorem State.goTx_adcLast (q : TxSeq) : (s.goTx q).adcLast = s.adcLast := rfl
@[simp] theorem State.goTx_rdMax (q : TxSeq) : (s.goTx q).rdMax = s.rdMax := rfl
@[simp] theorem State.goTx_dacOut (q : TxSeq) : (s.goTx q).dacOut = s.dacOut := rfl
@[simp] theorem State.goTx_evtOut (q : TxSeq) : (s.goTx q).evtOut = s.evtOut := rfl
@[simp] theorem State.goTx_toneOut (q : TxSeq) : (s.goTx q).toneOut = s.toneOut := rfl
@[simp] theorem State.goTx_moves (q : TxSeq) : (s.goTx q).moves = s.moves := rfl
@[simp] theorem State.goTx_tick (q : TxSeq) : (s.goTx q).tick = s.tick := rfl

@[simp] theorem State.setUser_rxSeq (b : List Byte) : (s.setUser b).rxSeq = s.rxSeq := rfl
@[simp] theorem State.setUser_txSeq (b : List Byte) : (s.setUser b).txSeq = s.txSeq := rfl
@[simp] theorem State.setUser_cmdSeq (b : List Byte) : (s.setUser b).cmdSeq = s.cmdSeq := rfl
@[simp] theorem State.setUser_run (b : List Byte) : (s.setUser b).run = s.run := rfl
@[simp] theorem State.setUser_txBusy (b : List Byte) : (s.setUser b).txBusy = s.txBusy := rfl
@[simp] theorem State.setUser_matched (b : List Byte) : (s.setUser b).matched = s.matched := rfl
@[simp] theorem State.setUser_midx (b : List Byte) : (s.setUser b).midx = s.midx := rfl
@[simp] theorem State.setUser_parseOk (b : List Byte) : (s.setUser b).parseOk = s.parseOk := rfl
@[simp] theorem State.setUser_evtValid (b : List Byte) : (s.setUser b).evtValid = s.evtValid := rfl
@[simp] theorem State.setUser_evi (b : List Byte) : (s.setUser b).evi = s.evi := rfl
@[simp] theorem State.setUser_err (b : List Byte) : (s.setUser b).err = s.err := rfl
@[simp] theorem State.setUser_user (b : List Byte) : (s.setUser b).user = overwrite s.user 0 b := rfl
@[simp] theorem State.setUser_ulen (b : List Byte) : (s.setUser b).ulen = BitVec.ofNat 5 b.length := rfl
@[simp] theorem State.setUser_q1 (b : List Byte) : (s.setUser b).q1 = s.q1 := rfl
@[simp] theorem State.setUser_q2 (b : List Byte) : (s.setUser b).q2 = s.q2 := rfl
@[simp] theorem State.setUser_en (b : List Byte) : (s.setUser b).en = s.en := rfl
@[simp] theorem State.setUser_dsym (b : List Byte) : (s.setUser b).dsym = s.dsym := rfl
@[simp] theorem State.setUser_gn (b : List Byte) : (s.setUser b).gn = s.gn := rfl
@[simp] theorem State.setUser_cidx (b : List Byte) : (s.setUser b).cidx = s.cidx := rfl
@[simp] theorem State.setUser_txSymI (b : List Byte) : (s.setUser b).txSymI = s.txSymI := rfl
@[simp] theorem State.setUser_txN (b : List Byte) : (s.setUser b).txN = s.txN := rfl
@[simp] theorem State.setUser_txNSym (b : List Byte) : (s.setUser b).txNSym = s.txNSym := rfl
@[simp] theorem State.setUser_syms (b : List Byte) : (s.setUser b).syms = s.syms := rfl
@[simp] theorem State.setUser_scnt (b : List Byte) : (s.setUser b).scnt = s.scnt := rfl
@[simp] theorem State.setUser_pbuf (b : List Byte) : (s.setUser b).pbuf = s.pbuf := rfl
@[simp] theorem State.setUser_pcnt (b : List Byte) : (s.setUser b).pcnt = s.pcnt := rfl
@[simp] theorem State.setUser_cd (b : List Byte) : (s.setUser b).cd = s.cd := rfl
@[simp] theorem State.setUser_ev (b : List Byte) : (s.setUser b).ev = s.ev := rfl
@[simp] theorem State.setUser_txPay (b : List Byte) : (s.setUser b).txPay = s.txPay := rfl
@[simp] theorem State.setUser_txLen (b : List Byte) : (s.setUser b).txLen = s.txLen := rfl
@[simp] theorem State.setUser_cmdOp (b : List Byte) : (s.setUser b).cmdOp = s.cmdOp := rfl
@[simp] theorem State.setUser_cmdLen (b : List Byte) : (s.setUser b).cmdLen = s.cmdLen := rfl
@[simp] theorem State.setUser_cmdCnt (b : List Byte) : (s.setUser b).cmdCnt = s.cmdCnt := rfl
@[simp] theorem State.setUser_cmdBuf (b : List Byte) : (s.setUser b).cmdBuf = s.cmdBuf := rfl
@[simp] theorem State.setUser_cmdSkip (b : List Byte) : (s.setUser b).cmdSkip = s.cmdSkip := rfl
@[simp] theorem State.setUser_buf (b : List Byte) : (s.setUser b).buf = s.buf := rfl
@[simp] theorem State.setUser_burst (b : List Byte) : (s.setUser b).burst = s.burst := rfl
@[simp] theorem State.setUser_txMsg (b : List Byte) : (s.setUser b).txMsg = s.txMsg := rfl
@[simp] theorem State.setUser_adcOk (b : List Byte) : (s.setUser b).adcOk = s.adcOk := rfl
@[simp] theorem State.setUser_dacOk (b : List Byte) : (s.setUser b).dacOk = s.dacOk := rfl
@[simp] theorem State.setUser_dacReady (b : List Byte) : (s.setUser b).dacReady = s.dacReady := rfl
@[simp] theorem State.setUser_rst (b : List Byte) : (s.setUser b).rst = s.rst := rfl
@[simp] theorem State.setUser_adcData (b : List Byte) : (s.setUser b).adcData = s.adcData := rfl
@[simp] theorem State.setUser_adcLast (b : List Byte) : (s.setUser b).adcLast = s.adcLast := rfl
@[simp] theorem State.setUser_rdMax (b : List Byte) : (s.setUser b).rdMax = s.rdMax := rfl
@[simp] theorem State.setUser_dacOut (b : List Byte) : (s.setUser b).dacOut = s.dacOut := rfl
@[simp] theorem State.setUser_evtOut (b : List Byte) : (s.setUser b).evtOut = s.evtOut := rfl
@[simp] theorem State.setUser_toneOut (b : List Byte) : (s.setUser b).toneOut = s.toneOut := rfl
@[simp] theorem State.setUser_moves (b : List Byte) : (s.setUser b).moves = s.moves := rfl
@[simp] theorem State.setUser_tick (b : List Byte) : (s.setUser b).tick = s.tick := rfl

@[simp] theorem State.append_rxSeq (xs : List Sample) : (s.append xs).rxSeq = s.rxSeq := rfl
@[simp] theorem State.append_txSeq (xs : List Sample) : (s.append xs).txSeq = s.txSeq := rfl
@[simp] theorem State.append_cmdSeq (xs : List Sample) : (s.append xs).cmdSeq = s.cmdSeq := rfl
@[simp] theorem State.append_run (xs : List Sample) : (s.append xs).run = s.run := rfl
@[simp] theorem State.append_txBusy (xs : List Sample) : (s.append xs).txBusy = s.txBusy := rfl
@[simp] theorem State.append_matched (xs : List Sample) : (s.append xs).matched = s.matched := rfl
@[simp] theorem State.append_midx (xs : List Sample) : (s.append xs).midx = s.midx := rfl
@[simp] theorem State.append_parseOk (xs : List Sample) : (s.append xs).parseOk = s.parseOk := rfl
@[simp] theorem State.append_evtValid (xs : List Sample) : (s.append xs).evtValid = s.evtValid := rfl
@[simp] theorem State.append_evi (xs : List Sample) : (s.append xs).evi = s.evi := rfl
@[simp] theorem State.append_err (xs : List Sample) : (s.append xs).err = s.err := rfl
@[simp] theorem State.append_user (xs : List Sample) : (s.append xs).user = s.user := rfl
@[simp] theorem State.append_ulen (xs : List Sample) : (s.append xs).ulen = s.ulen := rfl
@[simp] theorem State.append_q1 (xs : List Sample) : (s.append xs).q1 = s.q1 := rfl
@[simp] theorem State.append_q2 (xs : List Sample) : (s.append xs).q2 = s.q2 := rfl
@[simp] theorem State.append_en (xs : List Sample) : (s.append xs).en = s.en := rfl
@[simp] theorem State.append_dsym (xs : List Sample) : (s.append xs).dsym = s.dsym := rfl
@[simp] theorem State.append_gn (xs : List Sample) : (s.append xs).gn = s.gn := rfl
@[simp] theorem State.append_cidx (xs : List Sample) : (s.append xs).cidx = s.cidx := rfl
@[simp] theorem State.append_txSymI (xs : List Sample) : (s.append xs).txSymI = s.txSymI := rfl
@[simp] theorem State.append_txN (xs : List Sample) : (s.append xs).txN = s.txN := rfl
@[simp] theorem State.append_txNSym (xs : List Sample) : (s.append xs).txNSym = s.txNSym := rfl
@[simp] theorem State.append_syms (xs : List Sample) : (s.append xs).syms = s.syms := rfl
@[simp] theorem State.append_scnt (xs : List Sample) : (s.append xs).scnt = s.scnt := rfl
@[simp] theorem State.append_pbuf (xs : List Sample) : (s.append xs).pbuf = s.pbuf := rfl
@[simp] theorem State.append_pcnt (xs : List Sample) : (s.append xs).pcnt = s.pcnt := rfl
@[simp] theorem State.append_cd (xs : List Sample) : (s.append xs).cd = s.cd := rfl
@[simp] theorem State.append_ev (xs : List Sample) : (s.append xs).ev = s.ev := rfl
@[simp] theorem State.append_txPay (xs : List Sample) : (s.append xs).txPay = s.txPay := rfl
@[simp] theorem State.append_txLen (xs : List Sample) : (s.append xs).txLen = s.txLen := rfl
@[simp] theorem State.append_cmdOp (xs : List Sample) : (s.append xs).cmdOp = s.cmdOp := rfl
@[simp] theorem State.append_cmdLen (xs : List Sample) : (s.append xs).cmdLen = s.cmdLen := rfl
@[simp] theorem State.append_cmdCnt (xs : List Sample) : (s.append xs).cmdCnt = s.cmdCnt := rfl
@[simp] theorem State.append_cmdBuf (xs : List Sample) : (s.append xs).cmdBuf = s.cmdBuf := rfl
@[simp] theorem State.append_cmdSkip (xs : List Sample) : (s.append xs).cmdSkip = s.cmdSkip := rfl
@[simp] theorem State.append_buf (xs : List Sample) : (s.append xs).buf = s.buf ++ xs := rfl
@[simp] theorem State.append_burst (xs : List Sample) : (s.append xs).burst = s.burst := rfl
@[simp] theorem State.append_txMsg (xs : List Sample) : (s.append xs).txMsg = s.txMsg := rfl
@[simp] theorem State.append_adcOk (xs : List Sample) : (s.append xs).adcOk = s.adcOk := rfl
@[simp] theorem State.append_dacOk (xs : List Sample) : (s.append xs).dacOk = s.dacOk := rfl
@[simp] theorem State.append_dacReady (xs : List Sample) : (s.append xs).dacReady = s.dacReady := rfl
@[simp] theorem State.append_rst (xs : List Sample) : (s.append xs).rst = s.rst := rfl
@[simp] theorem State.append_adcData (xs : List Sample) : (s.append xs).adcData = s.adcData := rfl
@[simp] theorem State.append_adcLast (xs : List Sample) : (s.append xs).adcLast = s.adcLast := rfl
@[simp] theorem State.append_rdMax (xs : List Sample) : (s.append xs).rdMax = s.rdMax := rfl
@[simp] theorem State.append_dacOut (xs : List Sample) : (s.append xs).dacOut = s.dacOut := rfl
@[simp] theorem State.append_evtOut (xs : List Sample) : (s.append xs).evtOut = s.evtOut := rfl
@[simp] theorem State.append_toneOut (xs : List Sample) : (s.append xs).toneOut = s.toneOut := rfl
@[simp] theorem State.append_moves (xs : List Sample) : (s.append xs).moves = s.moves := rfl
@[simp] theorem State.append_tick (xs : List Sample) : (s.append xs).tick = s.tick := rfl

@[simp] theorem State.dropOldest_rxSeq (k : Nat) : (s.dropOldest k).rxSeq = s.rxSeq := rfl
@[simp] theorem State.dropOldest_txSeq (k : Nat) : (s.dropOldest k).txSeq = s.txSeq := rfl
@[simp] theorem State.dropOldest_cmdSeq (k : Nat) : (s.dropOldest k).cmdSeq = s.cmdSeq := rfl
@[simp] theorem State.dropOldest_run (k : Nat) : (s.dropOldest k).run = s.run := rfl
@[simp] theorem State.dropOldest_txBusy (k : Nat) : (s.dropOldest k).txBusy = s.txBusy := rfl
@[simp] theorem State.dropOldest_matched (k : Nat) : (s.dropOldest k).matched = s.matched := rfl
@[simp] theorem State.dropOldest_midx (k : Nat) : (s.dropOldest k).midx = s.midx := rfl
@[simp] theorem State.dropOldest_parseOk (k : Nat) : (s.dropOldest k).parseOk = s.parseOk := rfl
@[simp] theorem State.dropOldest_evtValid (k : Nat) : (s.dropOldest k).evtValid = s.evtValid := rfl
@[simp] theorem State.dropOldest_evi (k : Nat) : (s.dropOldest k).evi = s.evi := rfl
@[simp] theorem State.dropOldest_err (k : Nat) : (s.dropOldest k).err = s.err := rfl
@[simp] theorem State.dropOldest_user (k : Nat) : (s.dropOldest k).user = s.user := rfl
@[simp] theorem State.dropOldest_ulen (k : Nat) : (s.dropOldest k).ulen = s.ulen := rfl
@[simp] theorem State.dropOldest_q1 (k : Nat) : (s.dropOldest k).q1 = s.q1 := rfl
@[simp] theorem State.dropOldest_q2 (k : Nat) : (s.dropOldest k).q2 = s.q2 := rfl
@[simp] theorem State.dropOldest_en (k : Nat) : (s.dropOldest k).en = s.en := rfl
@[simp] theorem State.dropOldest_dsym (k : Nat) : (s.dropOldest k).dsym = s.dsym := rfl
@[simp] theorem State.dropOldest_gn (k : Nat) : (s.dropOldest k).gn = s.gn := rfl
@[simp] theorem State.dropOldest_cidx (k : Nat) : (s.dropOldest k).cidx = s.cidx := rfl
@[simp] theorem State.dropOldest_txSymI (k : Nat) : (s.dropOldest k).txSymI = s.txSymI := rfl
@[simp] theorem State.dropOldest_txN (k : Nat) : (s.dropOldest k).txN = s.txN := rfl
@[simp] theorem State.dropOldest_txNSym (k : Nat) : (s.dropOldest k).txNSym = s.txNSym := rfl
@[simp] theorem State.dropOldest_syms (k : Nat) : (s.dropOldest k).syms = s.syms := rfl
@[simp] theorem State.dropOldest_scnt (k : Nat) : (s.dropOldest k).scnt = s.scnt := rfl
@[simp] theorem State.dropOldest_pbuf (k : Nat) : (s.dropOldest k).pbuf = s.pbuf := rfl
@[simp] theorem State.dropOldest_pcnt (k : Nat) : (s.dropOldest k).pcnt = s.pcnt := rfl
@[simp] theorem State.dropOldest_cd (k : Nat) : (s.dropOldest k).cd = s.cd := rfl
@[simp] theorem State.dropOldest_ev (k : Nat) : (s.dropOldest k).ev = s.ev := rfl
@[simp] theorem State.dropOldest_txPay (k : Nat) : (s.dropOldest k).txPay = s.txPay := rfl
@[simp] theorem State.dropOldest_txLen (k : Nat) : (s.dropOldest k).txLen = s.txLen := rfl
@[simp] theorem State.dropOldest_cmdOp (k : Nat) : (s.dropOldest k).cmdOp = s.cmdOp := rfl
@[simp] theorem State.dropOldest_cmdLen (k : Nat) : (s.dropOldest k).cmdLen = s.cmdLen := rfl
@[simp] theorem State.dropOldest_cmdCnt (k : Nat) : (s.dropOldest k).cmdCnt = s.cmdCnt := rfl
@[simp] theorem State.dropOldest_cmdBuf (k : Nat) : (s.dropOldest k).cmdBuf = s.cmdBuf := rfl
@[simp] theorem State.dropOldest_cmdSkip (k : Nat) : (s.dropOldest k).cmdSkip = s.cmdSkip := rfl
@[simp] theorem State.dropOldest_buf (k : Nat) : (s.dropOldest k).buf = s.buf.drop k := rfl
@[simp] theorem State.dropOldest_burst (k : Nat) : (s.dropOldest k).burst = s.burst := rfl
@[simp] theorem State.dropOldest_txMsg (k : Nat) : (s.dropOldest k).txMsg = s.txMsg := rfl
@[simp] theorem State.dropOldest_adcOk (k : Nat) : (s.dropOldest k).adcOk = s.adcOk := rfl
@[simp] theorem State.dropOldest_dacOk (k : Nat) : (s.dropOldest k).dacOk = s.dacOk := rfl
@[simp] theorem State.dropOldest_dacReady (k : Nat) : (s.dropOldest k).dacReady = s.dacReady := rfl
@[simp] theorem State.dropOldest_rst (k : Nat) : (s.dropOldest k).rst = s.rst := rfl
@[simp] theorem State.dropOldest_adcData (k : Nat) : (s.dropOldest k).adcData = s.adcData := rfl
@[simp] theorem State.dropOldest_adcLast (k : Nat) : (s.dropOldest k).adcLast = s.adcLast := rfl
@[simp] theorem State.dropOldest_rdMax (k : Nat) : (s.dropOldest k).rdMax = s.rdMax := rfl
@[simp] theorem State.dropOldest_dacOut (k : Nat) : (s.dropOldest k).dacOut = s.dacOut := rfl
@[simp] theorem State.dropOldest_evtOut (k : Nat) : (s.dropOldest k).evtOut = s.evtOut := rfl
@[simp] theorem State.dropOldest_toneOut (k : Nat) : (s.dropOldest k).toneOut = s.toneOut := rfl
@[simp] theorem State.dropOldest_moves (k : Nat) : (s.dropOldest k).moves = s.moves := rfl
@[simp] theorem State.dropOldest_tick (k : Nat) : (s.dropOldest k).tick = s.tick := rfl

@[simp] theorem State.adcTaken_rxSeq : (s.adcTaken).rxSeq = s.rxSeq := rfl
@[simp] theorem State.adcTaken_txSeq : (s.adcTaken).txSeq = s.txSeq := rfl
@[simp] theorem State.adcTaken_cmdSeq : (s.adcTaken).cmdSeq = s.cmdSeq := rfl
@[simp] theorem State.adcTaken_run : (s.adcTaken).run = s.run := rfl
@[simp] theorem State.adcTaken_txBusy : (s.adcTaken).txBusy = s.txBusy := rfl
@[simp] theorem State.adcTaken_matched : (s.adcTaken).matched = s.matched := rfl
@[simp] theorem State.adcTaken_midx : (s.adcTaken).midx = s.midx := rfl
@[simp] theorem State.adcTaken_parseOk : (s.adcTaken).parseOk = s.parseOk := rfl
@[simp] theorem State.adcTaken_evtValid : (s.adcTaken).evtValid = s.evtValid := rfl
@[simp] theorem State.adcTaken_evi : (s.adcTaken).evi = s.evi := rfl
@[simp] theorem State.adcTaken_err : (s.adcTaken).err = s.err := rfl
@[simp] theorem State.adcTaken_user : (s.adcTaken).user = s.user := rfl
@[simp] theorem State.adcTaken_ulen : (s.adcTaken).ulen = s.ulen := rfl
@[simp] theorem State.adcTaken_q1 : (s.adcTaken).q1 = s.q1 := rfl
@[simp] theorem State.adcTaken_q2 : (s.adcTaken).q2 = s.q2 := rfl
@[simp] theorem State.adcTaken_en : (s.adcTaken).en = s.en := rfl
@[simp] theorem State.adcTaken_dsym : (s.adcTaken).dsym = s.dsym := rfl
@[simp] theorem State.adcTaken_gn : (s.adcTaken).gn = s.gn := rfl
@[simp] theorem State.adcTaken_cidx : (s.adcTaken).cidx = s.cidx := rfl
@[simp] theorem State.adcTaken_txSymI : (s.adcTaken).txSymI = s.txSymI := rfl
@[simp] theorem State.adcTaken_txN : (s.adcTaken).txN = s.txN := rfl
@[simp] theorem State.adcTaken_txNSym : (s.adcTaken).txNSym = s.txNSym := rfl
@[simp] theorem State.adcTaken_syms : (s.adcTaken).syms = s.syms := rfl
@[simp] theorem State.adcTaken_scnt : (s.adcTaken).scnt = s.scnt := rfl
@[simp] theorem State.adcTaken_pbuf : (s.adcTaken).pbuf = s.pbuf := rfl
@[simp] theorem State.adcTaken_pcnt : (s.adcTaken).pcnt = s.pcnt := rfl
@[simp] theorem State.adcTaken_cd : (s.adcTaken).cd = s.cd := rfl
@[simp] theorem State.adcTaken_ev : (s.adcTaken).ev = s.ev := rfl
@[simp] theorem State.adcTaken_txPay : (s.adcTaken).txPay = s.txPay := rfl
@[simp] theorem State.adcTaken_txLen : (s.adcTaken).txLen = s.txLen := rfl
@[simp] theorem State.adcTaken_cmdOp : (s.adcTaken).cmdOp = s.cmdOp := rfl
@[simp] theorem State.adcTaken_cmdLen : (s.adcTaken).cmdLen = s.cmdLen := rfl
@[simp] theorem State.adcTaken_cmdCnt : (s.adcTaken).cmdCnt = s.cmdCnt := rfl
@[simp] theorem State.adcTaken_cmdBuf : (s.adcTaken).cmdBuf = s.cmdBuf := rfl
@[simp] theorem State.adcTaken_cmdSkip : (s.adcTaken).cmdSkip = s.cmdSkip := rfl
@[simp] theorem State.adcTaken_buf : (s.adcTaken).buf = s.buf := rfl
@[simp] theorem State.adcTaken_burst : (s.adcTaken).burst = s.burst := rfl
@[simp] theorem State.adcTaken_txMsg : (s.adcTaken).txMsg = s.txMsg := rfl
@[simp] theorem State.adcTaken_adcOk : (s.adcTaken).adcOk = s.adcOk := rfl
@[simp] theorem State.adcTaken_dacOk : (s.adcTaken).dacOk = s.dacOk := rfl
@[simp] theorem State.adcTaken_dacReady : (s.adcTaken).dacReady = s.dacReady := rfl
@[simp] theorem State.adcTaken_rst : (s.adcTaken).rst = s.rst := rfl
@[simp] theorem State.adcTaken_adcData : (s.adcTaken).adcData = [] := rfl
@[simp] theorem State.adcTaken_adcLast : (s.adcTaken).adcLast = false := rfl
@[simp] theorem State.adcTaken_rdMax : (s.adcTaken).rdMax = s.rdMax := rfl
@[simp] theorem State.adcTaken_dacOut : (s.adcTaken).dacOut = s.dacOut := rfl
@[simp] theorem State.adcTaken_evtOut : (s.adcTaken).evtOut = s.evtOut := rfl
@[simp] theorem State.adcTaken_toneOut : (s.adcTaken).toneOut = s.toneOut := rfl
@[simp] theorem State.adcTaken_moves : (s.adcTaken).moves = s.moves := rfl
@[simp] theorem State.adcTaken_tick : (s.adcTaken).tick = s.tick := rfl

@[simp] theorem State.dacPush_rxSeq (v : Sample) (l : Bool) : (s.dacPush v l).rxSeq = s.rxSeq := rfl
@[simp] theorem State.dacPush_txSeq (v : Sample) (l : Bool) : (s.dacPush v l).txSeq = s.txSeq := rfl
@[simp] theorem State.dacPush_cmdSeq (v : Sample) (l : Bool) : (s.dacPush v l).cmdSeq = s.cmdSeq := rfl
@[simp] theorem State.dacPush_run (v : Sample) (l : Bool) : (s.dacPush v l).run = s.run := rfl
@[simp] theorem State.dacPush_txBusy (v : Sample) (l : Bool) : (s.dacPush v l).txBusy = s.txBusy := rfl
@[simp] theorem State.dacPush_matched (v : Sample) (l : Bool) : (s.dacPush v l).matched = s.matched := rfl
@[simp] theorem State.dacPush_midx (v : Sample) (l : Bool) : (s.dacPush v l).midx = s.midx := rfl
@[simp] theorem State.dacPush_parseOk (v : Sample) (l : Bool) : (s.dacPush v l).parseOk = s.parseOk := rfl
@[simp] theorem State.dacPush_evtValid (v : Sample) (l : Bool) : (s.dacPush v l).evtValid = s.evtValid := rfl
@[simp] theorem State.dacPush_evi (v : Sample) (l : Bool) : (s.dacPush v l).evi = s.evi := rfl
@[simp] theorem State.dacPush_err (v : Sample) (l : Bool) : (s.dacPush v l).err = s.err := rfl
@[simp] theorem State.dacPush_user (v : Sample) (l : Bool) : (s.dacPush v l).user = s.user := rfl
@[simp] theorem State.dacPush_ulen (v : Sample) (l : Bool) : (s.dacPush v l).ulen = s.ulen := rfl
@[simp] theorem State.dacPush_q1 (v : Sample) (l : Bool) : (s.dacPush v l).q1 = s.q1 := rfl
@[simp] theorem State.dacPush_q2 (v : Sample) (l : Bool) : (s.dacPush v l).q2 = s.q2 := rfl
@[simp] theorem State.dacPush_en (v : Sample) (l : Bool) : (s.dacPush v l).en = s.en := rfl
@[simp] theorem State.dacPush_dsym (v : Sample) (l : Bool) : (s.dacPush v l).dsym = s.dsym := rfl
@[simp] theorem State.dacPush_gn (v : Sample) (l : Bool) : (s.dacPush v l).gn = s.gn := rfl
@[simp] theorem State.dacPush_cidx (v : Sample) (l : Bool) : (s.dacPush v l).cidx = s.cidx := rfl
@[simp] theorem State.dacPush_txSymI (v : Sample) (l : Bool) : (s.dacPush v l).txSymI = s.txSymI := rfl
@[simp] theorem State.dacPush_txN (v : Sample) (l : Bool) : (s.dacPush v l).txN = s.txN := rfl
@[simp] theorem State.dacPush_txNSym (v : Sample) (l : Bool) : (s.dacPush v l).txNSym = s.txNSym := rfl
@[simp] theorem State.dacPush_syms (v : Sample) (l : Bool) : (s.dacPush v l).syms = s.syms := rfl
@[simp] theorem State.dacPush_scnt (v : Sample) (l : Bool) : (s.dacPush v l).scnt = s.scnt := rfl
@[simp] theorem State.dacPush_pbuf (v : Sample) (l : Bool) : (s.dacPush v l).pbuf = s.pbuf := rfl
@[simp] theorem State.dacPush_pcnt (v : Sample) (l : Bool) : (s.dacPush v l).pcnt = s.pcnt := rfl
@[simp] theorem State.dacPush_cd (v : Sample) (l : Bool) : (s.dacPush v l).cd = s.cd := rfl
@[simp] theorem State.dacPush_ev (v : Sample) (l : Bool) : (s.dacPush v l).ev = s.ev := rfl
@[simp] theorem State.dacPush_txPay (v : Sample) (l : Bool) : (s.dacPush v l).txPay = s.txPay := rfl
@[simp] theorem State.dacPush_txLen (v : Sample) (l : Bool) : (s.dacPush v l).txLen = s.txLen := rfl
@[simp] theorem State.dacPush_cmdOp (v : Sample) (l : Bool) : (s.dacPush v l).cmdOp = s.cmdOp := rfl
@[simp] theorem State.dacPush_cmdLen (v : Sample) (l : Bool) : (s.dacPush v l).cmdLen = s.cmdLen := rfl
@[simp] theorem State.dacPush_cmdCnt (v : Sample) (l : Bool) : (s.dacPush v l).cmdCnt = s.cmdCnt := rfl
@[simp] theorem State.dacPush_cmdBuf (v : Sample) (l : Bool) : (s.dacPush v l).cmdBuf = s.cmdBuf := rfl
@[simp] theorem State.dacPush_cmdSkip (v : Sample) (l : Bool) : (s.dacPush v l).cmdSkip = s.cmdSkip := rfl
@[simp] theorem State.dacPush_buf (v : Sample) (l : Bool) : (s.dacPush v l).buf = s.buf := rfl
@[simp] theorem State.dacPush_burst (v : Sample) (l : Bool) : (s.dacPush v l).burst = s.burst := rfl
@[simp] theorem State.dacPush_txMsg (v : Sample) (l : Bool) : (s.dacPush v l).txMsg = s.txMsg := rfl
@[simp] theorem State.dacPush_adcOk (v : Sample) (l : Bool) : (s.dacPush v l).adcOk = s.adcOk := rfl
@[simp] theorem State.dacPush_dacOk (v : Sample) (l : Bool) : (s.dacPush v l).dacOk = s.dacOk := rfl
@[simp] theorem State.dacPush_dacReady (v : Sample) (l : Bool) : (s.dacPush v l).dacReady = s.dacReady := rfl
@[simp] theorem State.dacPush_rst (v : Sample) (l : Bool) : (s.dacPush v l).rst = s.rst := rfl
@[simp] theorem State.dacPush_adcData (v : Sample) (l : Bool) : (s.dacPush v l).adcData = s.adcData := rfl
@[simp] theorem State.dacPush_adcLast (v : Sample) (l : Bool) : (s.dacPush v l).adcLast = s.adcLast := rfl
@[simp] theorem State.dacPush_rdMax (v : Sample) (l : Bool) : (s.dacPush v l).rdMax = s.rdMax := rfl
@[simp] theorem State.dacPush_dacOut (v : Sample) (l : Bool) : (s.dacPush v l).dacOut = (v, l) :: s.dacOut := rfl
@[simp] theorem State.dacPush_evtOut (v : Sample) (l : Bool) : (s.dacPush v l).evtOut = s.evtOut := rfl
@[simp] theorem State.dacPush_toneOut (v : Sample) (l : Bool) : (s.dacPush v l).toneOut = s.toneOut := rfl
@[simp] theorem State.dacPush_moves (v : Sample) (l : Bool) : (s.dacPush v l).moves = s.moves := rfl
@[simp] theorem State.dacPush_tick (v : Sample) (l : Bool) : (s.dacPush v l).tick = s.tick := rfl

@[simp] theorem State.evtPush_rxSeq (b : Byte) (l : Bool) : (s.evtPush b l).rxSeq = s.rxSeq := rfl
@[simp] theorem State.evtPush_txSeq (b : Byte) (l : Bool) : (s.evtPush b l).txSeq = s.txSeq := rfl
@[simp] theorem State.evtPush_cmdSeq (b : Byte) (l : Bool) : (s.evtPush b l).cmdSeq = s.cmdSeq := rfl
@[simp] theorem State.evtPush_run (b : Byte) (l : Bool) : (s.evtPush b l).run = s.run := rfl
@[simp] theorem State.evtPush_txBusy (b : Byte) (l : Bool) : (s.evtPush b l).txBusy = s.txBusy := rfl
@[simp] theorem State.evtPush_matched (b : Byte) (l : Bool) : (s.evtPush b l).matched = s.matched := rfl
@[simp] theorem State.evtPush_midx (b : Byte) (l : Bool) : (s.evtPush b l).midx = s.midx := rfl
@[simp] theorem State.evtPush_parseOk (b : Byte) (l : Bool) : (s.evtPush b l).parseOk = s.parseOk := rfl
@[simp] theorem State.evtPush_evtValid (b : Byte) (l : Bool) : (s.evtPush b l).evtValid = s.evtValid := rfl
@[simp] theorem State.evtPush_evi (b : Byte) (l : Bool) : (s.evtPush b l).evi = s.evi := rfl
@[simp] theorem State.evtPush_err (b : Byte) (l : Bool) : (s.evtPush b l).err = s.err := rfl
@[simp] theorem State.evtPush_user (b : Byte) (l : Bool) : (s.evtPush b l).user = s.user := rfl
@[simp] theorem State.evtPush_ulen (b : Byte) (l : Bool) : (s.evtPush b l).ulen = s.ulen := rfl
@[simp] theorem State.evtPush_q1 (b : Byte) (l : Bool) : (s.evtPush b l).q1 = s.q1 := rfl
@[simp] theorem State.evtPush_q2 (b : Byte) (l : Bool) : (s.evtPush b l).q2 = s.q2 := rfl
@[simp] theorem State.evtPush_en (b : Byte) (l : Bool) : (s.evtPush b l).en = s.en := rfl
@[simp] theorem State.evtPush_dsym (b : Byte) (l : Bool) : (s.evtPush b l).dsym = s.dsym := rfl
@[simp] theorem State.evtPush_gn (b : Byte) (l : Bool) : (s.evtPush b l).gn = s.gn := rfl
@[simp] theorem State.evtPush_cidx (b : Byte) (l : Bool) : (s.evtPush b l).cidx = s.cidx := rfl
@[simp] theorem State.evtPush_txSymI (b : Byte) (l : Bool) : (s.evtPush b l).txSymI = s.txSymI := rfl
@[simp] theorem State.evtPush_txN (b : Byte) (l : Bool) : (s.evtPush b l).txN = s.txN := rfl
@[simp] theorem State.evtPush_txNSym (b : Byte) (l : Bool) : (s.evtPush b l).txNSym = s.txNSym := rfl
@[simp] theorem State.evtPush_syms (b : Byte) (l : Bool) : (s.evtPush b l).syms = s.syms := rfl
@[simp] theorem State.evtPush_scnt (b : Byte) (l : Bool) : (s.evtPush b l).scnt = s.scnt := rfl
@[simp] theorem State.evtPush_pbuf (b : Byte) (l : Bool) : (s.evtPush b l).pbuf = s.pbuf := rfl
@[simp] theorem State.evtPush_pcnt (b : Byte) (l : Bool) : (s.evtPush b l).pcnt = s.pcnt := rfl
@[simp] theorem State.evtPush_cd (b : Byte) (l : Bool) : (s.evtPush b l).cd = s.cd := rfl
@[simp] theorem State.evtPush_ev (b : Byte) (l : Bool) : (s.evtPush b l).ev = s.ev := rfl
@[simp] theorem State.evtPush_txPay (b : Byte) (l : Bool) : (s.evtPush b l).txPay = s.txPay := rfl
@[simp] theorem State.evtPush_txLen (b : Byte) (l : Bool) : (s.evtPush b l).txLen = s.txLen := rfl
@[simp] theorem State.evtPush_cmdOp (b : Byte) (l : Bool) : (s.evtPush b l).cmdOp = s.cmdOp := rfl
@[simp] theorem State.evtPush_cmdLen (b : Byte) (l : Bool) : (s.evtPush b l).cmdLen = s.cmdLen := rfl
@[simp] theorem State.evtPush_cmdCnt (b : Byte) (l : Bool) : (s.evtPush b l).cmdCnt = s.cmdCnt := rfl
@[simp] theorem State.evtPush_cmdBuf (b : Byte) (l : Bool) : (s.evtPush b l).cmdBuf = s.cmdBuf := rfl
@[simp] theorem State.evtPush_cmdSkip (b : Byte) (l : Bool) : (s.evtPush b l).cmdSkip = s.cmdSkip := rfl
@[simp] theorem State.evtPush_buf (b : Byte) (l : Bool) : (s.evtPush b l).buf = s.buf := rfl
@[simp] theorem State.evtPush_burst (b : Byte) (l : Bool) : (s.evtPush b l).burst = s.burst := rfl
@[simp] theorem State.evtPush_txMsg (b : Byte) (l : Bool) : (s.evtPush b l).txMsg = s.txMsg := rfl
@[simp] theorem State.evtPush_adcOk (b : Byte) (l : Bool) : (s.evtPush b l).adcOk = s.adcOk := rfl
@[simp] theorem State.evtPush_dacOk (b : Byte) (l : Bool) : (s.evtPush b l).dacOk = s.dacOk := rfl
@[simp] theorem State.evtPush_dacReady (b : Byte) (l : Bool) : (s.evtPush b l).dacReady = s.dacReady := rfl
@[simp] theorem State.evtPush_rst (b : Byte) (l : Bool) : (s.evtPush b l).rst = s.rst := rfl
@[simp] theorem State.evtPush_adcData (b : Byte) (l : Bool) : (s.evtPush b l).adcData = s.adcData := rfl
@[simp] theorem State.evtPush_adcLast (b : Byte) (l : Bool) : (s.evtPush b l).adcLast = s.adcLast := rfl
@[simp] theorem State.evtPush_rdMax (b : Byte) (l : Bool) : (s.evtPush b l).rdMax = s.rdMax := rfl
@[simp] theorem State.evtPush_dacOut (b : Byte) (l : Bool) : (s.evtPush b l).dacOut = s.dacOut := rfl
@[simp] theorem State.evtPush_evtOut (b : Byte) (l : Bool) : (s.evtPush b l).evtOut = (b, l) :: s.evtOut := rfl
@[simp] theorem State.evtPush_toneOut (b : Byte) (l : Bool) : (s.evtPush b l).toneOut = s.toneOut := rfl
@[simp] theorem State.evtPush_moves (b : Byte) (l : Bool) : (s.evtPush b l).moves = s.moves := rfl
@[simp] theorem State.evtPush_tick (b : Byte) (l : Bool) : (s.evtPush b l).tick = s.tick := rfl

@[simp] theorem cutFrame_txSeq : (cutFrame s).txSeq = .idle := rfl
@[simp] theorem cutFrame_txBusy : (cutFrame s).txBusy = false := rfl

@[simp] theorem cutFrame_rxSeq : (cutFrame s).rxSeq = s.rxSeq := rfl
@[simp] theorem cutFrame_cmdSeq : (cutFrame s).cmdSeq = s.cmdSeq := rfl
@[simp] theorem cutFrame_run : (cutFrame s).run = s.run := rfl
@[simp] theorem cutFrame_matched : (cutFrame s).matched = s.matched := rfl
@[simp] theorem cutFrame_midx : (cutFrame s).midx = s.midx := rfl
@[simp] theorem cutFrame_parseOk : (cutFrame s).parseOk = s.parseOk := rfl
@[simp] theorem cutFrame_evtValid : (cutFrame s).evtValid = s.evtValid := rfl
@[simp] theorem cutFrame_evi : (cutFrame s).evi = s.evi := rfl
@[simp] theorem cutFrame_err : (cutFrame s).err = s.err := rfl
@[simp] theorem cutFrame_user : (cutFrame s).user = s.user := rfl
@[simp] theorem cutFrame_ulen : (cutFrame s).ulen = s.ulen := rfl
@[simp] theorem cutFrame_q1 : (cutFrame s).q1 = s.q1 := rfl
@[simp] theorem cutFrame_q2 : (cutFrame s).q2 = s.q2 := rfl
@[simp] theorem cutFrame_en : (cutFrame s).en = s.en := rfl
@[simp] theorem cutFrame_dsym : (cutFrame s).dsym = s.dsym := rfl
@[simp] theorem cutFrame_gn : (cutFrame s).gn = s.gn := rfl
@[simp] theorem cutFrame_cidx : (cutFrame s).cidx = s.cidx := rfl
@[simp] theorem cutFrame_txSymI : (cutFrame s).txSymI = s.txSymI := rfl
@[simp] theorem cutFrame_txN : (cutFrame s).txN = s.txN := rfl
@[simp] theorem cutFrame_txNSym : (cutFrame s).txNSym = s.txNSym := rfl
@[simp] theorem cutFrame_syms : (cutFrame s).syms = s.syms := rfl
@[simp] theorem cutFrame_scnt : (cutFrame s).scnt = s.scnt := rfl
@[simp] theorem cutFrame_pbuf : (cutFrame s).pbuf = s.pbuf := rfl
@[simp] theorem cutFrame_pcnt : (cutFrame s).pcnt = s.pcnt := rfl
@[simp] theorem cutFrame_cd : (cutFrame s).cd = s.cd := rfl
@[simp] theorem cutFrame_ev : (cutFrame s).ev = s.ev := rfl
@[simp] theorem cutFrame_txPay : (cutFrame s).txPay = s.txPay := rfl
@[simp] theorem cutFrame_txLen : (cutFrame s).txLen = s.txLen := rfl
@[simp] theorem cutFrame_cmdOp : (cutFrame s).cmdOp = s.cmdOp := rfl
@[simp] theorem cutFrame_cmdLen : (cutFrame s).cmdLen = s.cmdLen := rfl
@[simp] theorem cutFrame_cmdCnt : (cutFrame s).cmdCnt = s.cmdCnt := rfl
@[simp] theorem cutFrame_cmdBuf : (cutFrame s).cmdBuf = s.cmdBuf := rfl
@[simp] theorem cutFrame_cmdSkip : (cutFrame s).cmdSkip = s.cmdSkip := rfl
@[simp] theorem cutFrame_buf : (cutFrame s).buf = s.buf := rfl
@[simp] theorem cutFrame_burst : (cutFrame s).burst = s.burst := rfl
@[simp] theorem cutFrame_txMsg : (cutFrame s).txMsg = s.txMsg := rfl
@[simp] theorem cutFrame_adcOk : (cutFrame s).adcOk = s.adcOk := rfl
@[simp] theorem cutFrame_dacOk : (cutFrame s).dacOk = s.dacOk := rfl
@[simp] theorem cutFrame_dacReady : (cutFrame s).dacReady = s.dacReady := rfl
@[simp] theorem cutFrame_rst : (cutFrame s).rst = s.rst := rfl
@[simp] theorem cutFrame_adcData : (cutFrame s).adcData = s.adcData := rfl
@[simp] theorem cutFrame_adcLast : (cutFrame s).adcLast = s.adcLast := rfl
@[simp] theorem cutFrame_rdMax : (cutFrame s).rdMax = s.rdMax := rfl
@[simp] theorem cutFrame_dacOut : (cutFrame s).dacOut = s.dacOut := rfl
@[simp] theorem cutFrame_evtOut : (cutFrame s).evtOut = s.evtOut := rfl
@[simp] theorem cutFrame_toneOut : (cutFrame s).toneOut = s.toneOut := rfl
@[simp] theorem cutFrame_moves : (cutFrame s).moves = s.moves := rfl
@[simp] theorem cutFrame_tick : (cutFrame s).tick = s.tick := rfl
@[simp] theorem State.rstEdge_rxSeq : (s.rstEdge).rxSeq = State.reset.rxSeq := rfl
@[simp] theorem State.rstEdge_txSeq : (s.rstEdge).txSeq = State.reset.txSeq := rfl
@[simp] theorem State.rstEdge_cmdSeq : (s.rstEdge).cmdSeq = State.reset.cmdSeq := rfl
@[simp] theorem State.rstEdge_run : (s.rstEdge).run = State.reset.run := rfl
@[simp] theorem State.rstEdge_txBusy : (s.rstEdge).txBusy = State.reset.txBusy := rfl
@[simp] theorem State.rstEdge_matched : (s.rstEdge).matched = State.reset.matched := rfl
@[simp] theorem State.rstEdge_midx : (s.rstEdge).midx = State.reset.midx := rfl
@[simp] theorem State.rstEdge_parseOk : (s.rstEdge).parseOk = State.reset.parseOk := rfl
@[simp] theorem State.rstEdge_evtValid : (s.rstEdge).evtValid = State.reset.evtValid := rfl
@[simp] theorem State.rstEdge_evi : (s.rstEdge).evi = State.reset.evi := rfl
@[simp] theorem State.rstEdge_err : (s.rstEdge).err = State.reset.err := rfl
@[simp] theorem State.rstEdge_user : (s.rstEdge).user = State.reset.user := rfl
@[simp] theorem State.rstEdge_ulen : (s.rstEdge).ulen = State.reset.ulen := rfl
@[simp] theorem State.rstEdge_q1 : (s.rstEdge).q1 = State.reset.q1 := rfl
@[simp] theorem State.rstEdge_q2 : (s.rstEdge).q2 = State.reset.q2 := rfl
@[simp] theorem State.rstEdge_en : (s.rstEdge).en = State.reset.en := rfl
@[simp] theorem State.rstEdge_dsym : (s.rstEdge).dsym = State.reset.dsym := rfl
@[simp] theorem State.rstEdge_gn : (s.rstEdge).gn = State.reset.gn := rfl
@[simp] theorem State.rstEdge_cidx : (s.rstEdge).cidx = State.reset.cidx := rfl
@[simp] theorem State.rstEdge_txSymI : (s.rstEdge).txSymI = State.reset.txSymI := rfl
@[simp] theorem State.rstEdge_txN : (s.rstEdge).txN = State.reset.txN := rfl
@[simp] theorem State.rstEdge_txNSym : (s.rstEdge).txNSym = State.reset.txNSym := rfl
@[simp] theorem State.rstEdge_syms : (s.rstEdge).syms = State.reset.syms := rfl
@[simp] theorem State.rstEdge_scnt : (s.rstEdge).scnt = State.reset.scnt := rfl
@[simp] theorem State.rstEdge_pbuf : (s.rstEdge).pbuf = State.reset.pbuf := rfl
@[simp] theorem State.rstEdge_pcnt : (s.rstEdge).pcnt = State.reset.pcnt := rfl
@[simp] theorem State.rstEdge_cd : (s.rstEdge).cd = State.reset.cd := rfl
@[simp] theorem State.rstEdge_ev : (s.rstEdge).ev = State.reset.ev := rfl
@[simp] theorem State.rstEdge_txPay : (s.rstEdge).txPay = State.reset.txPay := rfl
@[simp] theorem State.rstEdge_txLen : (s.rstEdge).txLen = State.reset.txLen := rfl
@[simp] theorem State.rstEdge_cmdOp : (s.rstEdge).cmdOp = State.reset.cmdOp := rfl
@[simp] theorem State.rstEdge_cmdLen : (s.rstEdge).cmdLen = State.reset.cmdLen := rfl
@[simp] theorem State.rstEdge_cmdCnt : (s.rstEdge).cmdCnt = State.reset.cmdCnt := rfl
@[simp] theorem State.rstEdge_cmdBuf : (s.rstEdge).cmdBuf = State.reset.cmdBuf := rfl
@[simp] theorem State.rstEdge_cmdSkip : (s.rstEdge).cmdSkip = State.reset.cmdSkip := rfl
@[simp] theorem State.rstEdge_buf : (s.rstEdge).buf = State.reset.buf := rfl
@[simp] theorem State.rstEdge_burst : (s.rstEdge).burst = State.reset.burst := rfl
@[simp] theorem State.rstEdge_txMsg : (s.rstEdge).txMsg = State.reset.txMsg := rfl
@[simp] theorem State.rstEdge_adcOk : (s.rstEdge).adcOk = s.adcOk := rfl
@[simp] theorem State.rstEdge_dacOk : (s.rstEdge).dacOk = s.dacOk := rfl
@[simp] theorem State.rstEdge_dacReady : (s.rstEdge).dacReady = s.dacReady := rfl
@[simp] theorem State.rstEdge_rst : (s.rstEdge).rst = s.rst := rfl
@[simp] theorem State.rstEdge_adcData : (s.rstEdge).adcData = State.reset.adcData := rfl
@[simp] theorem State.rstEdge_adcLast : (s.rstEdge).adcLast = State.reset.adcLast := rfl
@[simp] theorem State.rstEdge_rdMax : (s.rstEdge).rdMax = s.rdMax := rfl
@[simp] theorem State.rstEdge_dacOut : (s.rstEdge).dacOut = s.dacOut := rfl
@[simp] theorem State.rstEdge_evtOut : (s.rstEdge).evtOut = s.evtOut := rfl
@[simp] theorem State.rstEdge_toneOut : (s.rstEdge).toneOut = State.reset.toneOut := rfl
@[simp] theorem State.rstEdge_moves : (s.rstEdge).moves = s.moves := rfl
@[simp] theorem State.rstEdge_tick : (s.rstEdge).tick = s.tick := rfl

end Sys2Proof.Machine
end

