-- ==== Sys2Proof/Laws/Ops.lean ====
section
/-! SUPPORT. One lemma for each shared operation that says what it can do; later proofs cite these and do not unfold the
operations. -/
namespace Sys2Proof.Machine

/-! ### Register files -/

section Files
variable {α : Type} {n : Nat}

/-- What a write of a list leaves at every index: the list's element inside, the old one outside. -/
theorem overwrite_getElem? (v : Vector α n) (i : Nat) (xs : List α) (j : Nat) :
    (overwrite v i xs)[j]? = if i ≤ j ∧ j < i + xs.length ∧ j < n then xs[j - i]? else v[j]? := by
  induction xs generalizing v i with
  | nil =>
    have h : ¬ (i ≤ j ∧ j < i + ([] : List α).length ∧ j < n) := by simp; omega
    simp only [h, if_false, overwrite]
  | cons x xs ih =>
    rw [overwrite, ih]
    by_cases hj : j < n
    · by_cases he : j = i
      · subst he
        simp [hj]
      · by_cases hi : i + 1 ≤ j
        · have e : j - i = (j - (i + 1)) + 1 := by omega
          by_cases hl : j < i + 1 + xs.length
          · have hl' : j < i + (xs.length + 1) := by omega
            simp [hi, hl, hl', hj, e, show i ≤ j by omega]
          · have hl' : ¬ j < i + (xs.length + 1) := by omega
            simp [hl, hl', Ne.symm he]
        · simp [hi, show ¬ i ≤ j by omega, Ne.symm he]
    · simp [hj]

/-- A list written from index 0 is what the file's first elements then are. -/
theorem overwrite_take (v : Vector α n) (xs : List α) (h : xs.length ≤ n) :
    (overwrite v 0 xs).toList.take xs.length = xs := by
  apply List.ext_getElem?
  intro j
  by_cases hj : j < xs.length
  · rw [List.getElem?_take_of_lt hj, Vector.getElem?_toList, overwrite_getElem?]
    simp [hj, show j < n by omega]
  · rw [List.getElem?_eq_none (by simp; omega), List.getElem?_eq_none (by omega)]

/-- The live part of a file exists exactly where the count fits the file. -/
theorem live_eq_some {v : Vector α n} {k : Nat} (h : k ≤ n) : live v k = some (v.toList.take k) := by
  simp [live, h]

theorem live_eq_none {v : Vector α n} {k : Nat} (h : ¬ k ≤ n) : live v k = none := by
  simp [live, h]

/-- The live part has as many elements as the count says. -/
theorem live_length {v : Vector α n} {k : Nat} {xs : List α} (h : live v k = some xs) : xs.length = k := by
  unfold live at h
  split at h
  · cases h; simp; omega
  · cases h

/-- Elements of the live part are the file's own. -/
theorem live_getElem? {v : Vector α n} {k : Nat} {xs : List α} (h : live v k = some xs) {j : Nat} (hj : j < k) :
    xs[j]? = v[j]? := by
  unfold live at h
  split at h
  · cases h; rw [List.getElem?_take_of_lt hj, Vector.getElem?_toList]
  · cases h

end Files

/-! ### Records (R37) -/

/-- Storing a pair that fits sets the two lengths and makes the pair the record's sender and message. -/
theorem Record.store_fits (r : Record) (snd msg : List Byte) (hs : snd.length ≤ 16) (hm : msg.length ≤ 16) :
    (r.store snd msg).slen.toNat = snd.length ∧ (r.store snd msg).mlen.toNat = msg.length ∧
    (r.store snd msg).sender = snd ∧ (r.store snd msg).message = msg := by
  have e1 : snd.length % 32 = snd.length := Nat.mod_eq_of_lt (by omega)
  have e2 : msg.length % 32 = msg.length := Nat.mod_eq_of_lt (by omega)
  refine ⟨by simp [Record.store, e1], by simp [Record.store, e2], ?_, ?_⟩
  · simp [Record.sender, Record.store, e1, overwrite_take _ _ hs]
  · simp [Record.message, Record.store, e2, overwrite_take _ _ hm]

/-- The sender of a record has as many bytes as its length says, at most 16. -/
theorem Record.sender_length (r : Record) : r.sender.length = min r.slen.toNat 16 := by
  simp [Record.sender]

theorem Record.message_length (r : Record) : r.message.length = min r.mlen.toNat 16 := by
  simp [Record.message]

/-- R100: the total length of an event record. -/
theorem Record.bytes_length (r : Record) : r.bytes.length = 2 + min r.slen.toNat 16 + min r.mlen.toNat 16 := by
  simp [Record.bytes, Record.sender_length, Record.message_length]; omega

/-! ### The ROMs -/

theorem lut_length : lut.length = 1408 := by decide +kernel

/-- R60, R131: a read answers exactly where the sample index is below 176. -/
theorem lutRead_eq_some {sym : Symbol} {n : Nat} (h : n < 176) :
    ∃ v, lutRead sym n = some v ∧ lut[176 * sym.toNat + n]? = some v := by
  have hs : sym.toNat < 8 := sym.isLt
  have hb : 176 * sym.toNat + n < lut.length := by rw [lut_length]; omega
  exact ⟨_, by simp [lutRead, h, List.getElem?_eq_getElem hb], List.getElem?_eq_getElem hb⟩

theorem lutRead_eq_none {sym : Symbol} {n : Nat} (h : ¬ n < 176) : lutRead sym n = none := by
  simp [lutRead, h]

/-! ### The sample buffer -/

/-- R70: a chunk has 176 samples. -/
theorem State.chunk_length {s : State} {c : Nat} {xs : List Sample} (h : s.chunk c = some xs) : xs.length = 176 := by
  unfold State.chunk at h
  split at h
  · next hb => cases h; simp at hb ⊢; omega
  · cases h

theorem State.chunk_eq_some {s : State} {c : Nat} (h : 176 * c + 176 ≤ s.blen) :
    s.chunk c = some ((s.buf.drop (176 * c)).take 176) := by
  rw [State.chunk, if_pos h]

/-- R166: what a trim leaves has at most 17600 samples. -/
theorem trimmed_blen (s : State) : (trimmed s).blen ≤ 17600 := by
  unfold trimmed
  split
  · next h => simp at h ⊢; omega
  · next h => simpa using h

/-- R166: a trim changes the buffer only. -/
theorem trimmed_frame (s : State) : trimmed s = { s with buf := (trimmed s).buf } := by
  unfold trimmed
  split
  · simp only [State.dropOldest]
  · rfl

/-! ### Bits, symbols and bytes -/

@[simp] theorem pack_length (bs : List Byte) : (pack bs).length = paySyms bs.length := by simp [pack]

@[simp] theorem unpack_length (ps : List Symbol) : (unpack ps).length = 3 * ps.length / 8 := by simp [unpack]

/-- R143: the length of a frame in symbols. -/
@[simp] theorem frameSyms_length (pay : List Byte) : (frameSyms pay).length = 4 + paySyms pay.length := by
  simp [frameSyms]; omega

/-- R147: the length of a waveform. -/
theorem wave_length (syms : List Sys2Proof.Symbol) : (wave syms).length = 176 * syms.length := by
  induction syms with
  | nil => rfl
  | cons y ys ih =>
    have hy : y.toNat < 8 := y.isLt
    have e : wave (y :: ys) = (lut.drop (176 * y.toNat)).take 176 ++ wave ys := rfl
    rw [e, List.length_append, ih, List.length_take, List.length_drop, lut_length, List.length_cons]
    omega

@[simp] theorem payload_length (u m : List Byte) : (payload u m).length = 1 + u.length + m.length := by
  simp [payload]; omega

/-! ### Decisions of the receive side -/

/-- R203: a match is at an index where the four symbols stand, inside the list. -/
theorem findPreamble_some {xs : List Symbol} {i : Nat} (h : findPreamble xs = some i) :
    i + 4 ≤ xs.length ∧ (xs.drop i).take 4 = Config.preamble := by
  induction xs generalizing i with
  | nil => simp [findPreamble] at h
  | cons a rest ih =>
    rw [findPreamble] at h
    split at h
    · next hp =>
      cases h
      have hl := congrArg List.length hp
      simp at hl
      exact ⟨by simp; omega, hp⟩
    · obtain ⟨j, hj, rfl⟩ := Option.map_eq_some_iff.mp h
      obtain ⟨h1, h2⟩ := ih hj
      exact ⟨by simp; omega, by simpa using h2⟩

/-- R223: a stripped message is no longer than the message. -/
theorem stripNul_length (bs : List Byte) : (stripNul bs).length ≤ bs.length := by
  rw [stripNul, List.length_reverse]
  exact (List.dropWhile_sublist _).length_le.trans (by simp)

/-- R223: a candidate's sender and message together are shorter than the payload. -/
theorem parsePayload_frame {bs snd msg : List Byte} (h : parsePayload bs = .frame snd msg) :
    snd.length + msg.length + 1 ≤ bs.length := by
  match bs with
  | [] => simp [parsePayload] at h
  | [_] => simp [parsePayload] at h
  | l :: b :: rest =>
    rw [parsePayload] at h
    split at h
    · cases h
    · next hl =>
      cases h
      have := stripNul_length ((b :: rest).drop l.toNat)
      simp at this hl ⊢
      omega
    · simp

/-! ### Moves and histories -/

/-- R15: the schedule gives way to the transmit sequencer only while a frame is built and a command byte stands next. -/
theorem buildsFirst_iff (s : State) :
    s.buildsFirst = true ↔ s.txBuilding = true ∧ s.cmdReady = true ∧ ∃ b, s.offered = .cmd b := by
  simp only [State.buildsFirst, Bool.and_eq_true, and_assoc]
  cases s.offered <;> simp [isCommandByte]

/-- R149: where a frame is being built. -/
theorem txBuilding_iff (s : State) : s.txBuilding = true ↔ s.txSeq = .frame ∨ s.txSeq = .pack := by
  unfold State.txBuilding
  cases s.txSeq <;> simp

/-- The next move is the first one scheduled, but for R15's turns. -/
theorem nextMove_cons {s : State} {m : Move} {ms : List Move} (h : s.moves = m :: ms) (hb : s.buildsFirst = false) :
    s.nextMove = m ∧ s.moveTaken = { s with moves := ms } := by
  simp [State.nextMove, State.moveTaken, State.offered, hb, h]

/-- No frame is being built: the schedule goes on. -/
theorem buildsFirst_not_building {s : State} (h : s.txBuilding = false) : s.buildsFirst = false := by
  simp [State.buildsFirst, h]

/-- Any move but a command byte goes on at once. -/
theorem buildsFirst_not_command {s : State} {m : Move} {ms : List Move} (h : s.moves = m :: ms)
    (hm : isCommandByte m = false) : s.buildsFirst = false := by
  simp [State.buildsFirst, State.offered, h, hm]

/-- R250: a command byte that finds a frame being built finds the transmit sequencer's turn before it. -/
theorem nextMove_builds {s : State} (h : s.buildsFirst = true) : s.nextMove = .tx ∧ s.moveTaken = s := by
  simp [State.nextMove, State.moveTaken, h]

/-- Taking a move changes the schedule only. -/
theorem moveTaken_frame (s : State) :
    s.moveTaken = { s with moves := s.moveTaken.moves, tick := s.moveTaken.tick } := by
  unfold State.moveTaken
  split
  · rfl
  · split <;> rfl

/-- R320: a move at a clock edge in reset leaves the reset state, with the environment's pins as the move sets them. -/
theorem fetchMove_reset {s : State} {m : Move} (h : s.resets m = true) :
    fetchMove m s = .idle (s.rstEdge.envMove m) := by
  rw [fetchMove, if_pos h]

/-- Out of reset a move does what its agent does. -/
theorem fetchMove_active {s : State} {m : Move} (h : s.resets m = false) : fetchMove m s = activeMove m s := by
  rw [fetchMove, if_neg (by simp [h])]

/-- R320: which moves are edges in reset. -/
theorem resets_iff (s : State) (m : Move) : s.resets m = true ↔ s.rst = true ∨ m = .rst true := by
  simp [State.resets]

/-- A move of the environment changes the pins only. -/
theorem envMove_frame (s : State) (m : Move) : s.envMove m = { s with
    adcOk := (s.envMove m).adcOk, dacOk := (s.envMove m).dacOk, dacReady := (s.envMove m).dacReady
    rst := (s.envMove m).rst } := by
  cases m <;> rfl

/-- R23, R101: what a turn of the receive sequencer runs. -/
theorem activeMove_rx (s : State) : activeMove .rx s =
    match s.rxSeq with
    | .off => .idle s
    | .capture => .run .rxAppend s
    | .goertzel => .run .rxGoertzel s
    | .slice => .run .rxSlice s
    | .scan => .run .rxScan s
    | .unpack => .run .rxUnpack s
    | .parse => .run .rxParse s
    | .filter => .run .rxFilter s
    | .deliver => .run .rxDeliver s
    | .advance => .run .rxAdvance s
    | .trim => .run .rxTrim s := by
  cases h : s.rxSeq <;> simp [activeMove, runCode, decode, decodeRx, RxSeq.code, h]

/-- R24, R101: what a turn of the transmit sequencer runs. -/
theorem activeMove_tx (s : State) : activeMove .tx s =
    match s.txSeq with
    | .idle => .idle s
    | .frame => .run .txFrame s
    | .pack => .run .txPack s
    | .play => .run .txPlay s := by
  cases h : s.txSeq <;> simp [activeMove, runCode, decode, decodeTx, TxSeq.code, h]

/-- R258: staging a byte writes `CMDBUF` only. -/
theorem stageByte_frame (s : State) (b : Byte) : s.stageByte b = { s with cmdBuf := (s.stageByte b).cmdBuf } := by
  unfold State.stageByte
  split <;> rfl

/-- R64, R146, R148: when the pin `dac_last` is 1. -/
theorem dacLastPin_iff (s : State) : s.dacLastPin = true ↔ s.rst = false ∧ s.txSeq = .play ∧ s.dacLast = true := by
  simp [State.dacLastPin, State.dacValid, and_assoc]

/-- R64: while `dac_valid` is 1 the data pin is the offered sample. -/
theorem dacDataPin_play {s : State} (hr : s.rst = false) (h : s.txSeq = .play) : s.dacDataPin = s.dacData := by
  simp [State.dacDataPin, State.dacValid, hr, h]

/-- R67, R239: when the pin `evt_last` is 1. -/
theorem evtLastPin_iff (s : State) : s.evtLastPin = true ↔ s.rst = false ∧ s.evtValid = true ∧ s.evtLast = true := by
  simp [State.evtLastPin, State.evtValidPin, and_assoc]

/-- R352: what quiescent says. -/
theorem quiescent_iff (s : State) : s.quiescent = true ↔
    s.cmdSeq = .op ∧ s.txSeq = .idle ∧ (s.rxSeq = .off ∨ (s.rxSeq = .capture ∧ s.burst = 0)) := by
  simp [State.quiescent]

/-- R352, R100: a run of event bytes of which the last alone is marked is one record. -/
theorem cutRecords_record (bs : List Byte) (b : Byte) (part : List Byte) (rest : List (Byte × Bool)) :
    cutRecords part (bs.map (fun x => (x, false)) ++ (b, true) :: rest) = (part ++ bs ++ [b]) :: cutRecords [] rest := by
  induction bs generalizing part with
  | nil => simp [cutRecords]
  | cons x xs ih => simp [cutRecords, ih]

end Sys2Proof.Machine
end

