-- ==== Sys2Proof/Laws/Atomic.lean ====
section
/-! SUPPORT. What the atomic step of R15 can do: it ends where neither sequencer has anything to do. -/
namespace Sys2Proof.Machine

/-- R15: where the core is settled. -/
theorem settled_iff (s : State) : s.settled = true ↔
    (s.rxSeq = .off ∨ s.rxSeq = .capture ∨ (s.rxSeq = .deliver ∧ s.evtValid = true ∧ s.run = true)) ∧
    (s.txSeq = .idle ∨ s.txSeq = .play) := by
  simp only [State.settled, State.rxBusy, State.txBuilding, Bool.and_eq_true, Bool.not_eq_true']
  cases s.rxSeq <;> cases s.txSeq <;> simp

/-- How many operations of an attempt are ahead at most (R168). -/
def rxWork (s : State) : Nat :=
  match s.rxSeq with
  | .off => 0
  | .capture => 0
  | .goertzel => 9 + 2 * (49 - s.cidx.toNat)
  | .slice => 8 + 2 * (49 - s.cidx.toNat)
  | .scan => 7
  | .unpack => 6
  | .parse => 5
  | .filter => 4
  | .deliver => 3
  | .advance => 2
  | .trim => 1

/-- How many operations of the construction of a frame are ahead (R149). -/
def txWork (s : State) : Nat :=
  match s.txSeq with
  | .idle => 0
  | .frame => 2
  | .pack => 1
  | .play => 0

theorem rxWork_le (s : State) : rxWork s ≤ 107 := by
  unfold rxWork
  split <;> omega

theorem txWork_le (s : State) : txWork s ≤ 2 := by
  unfold txWork
  split <;> omega

/-- A turn of the transmit sequencer that builds goes on to the next state of R149 and leaves the receive side alone. -/
theorem txTurn_work {s t : State} (hs : s.txBuilding = true) (h : runFetched (activeMove .tx s) = .next t) :
    rxWork t = rxWork s ∧ txWork t < txWork s := by
  rw [activeMove_tx] at h
  cases hq : s.txSeq <;> simp only [State.txBuilding, hq, Bool.false_eq_true] at hs <;>
    simp only [hq, runFetched, exec] at h
  case frame =>
    unfold execTxFrame at h
    simp only at h
    (repeat' split at h) <;> cases h
    simp [rxWork, txWork, hq]
  case pack =>
    unfold execTxPack at h
    (repeat' split at h) <;> cases h
    simp [rxWork, txWork, hq]

/-- A turn of the receive sequencer in an attempt goes on in it and leaves the transmit side alone. -/
theorem rxTurn_work {s t : State} (hs : s.rxBusy = true) (h : runFetched (activeMove .rx s) = .next t) :
    rxWork t < rxWork s ∧ txWork t = txWork s := by
  rw [activeMove_rx] at h
  cases hq : s.rxSeq <;> simp only [State.rxBusy, hq, Bool.false_eq_true] at hs <;>
    simp only [hq, runFetched, exec] at h
  case goertzel =>
    unfold execRxGoertzel at h
    (repeat' split at h) <;> cases h
    simp [rxWork, txWork, hq]
  case slice =>
    unfold execRxSlice at h
    have hl : numChunks s.blen ≤ 50 := by simp [numChunks]
    simp only at h
    (repeat' split at h) <;> cases h
    · next hm =>
      have : (s.cidx + 1).toNat = s.cidx.toNat + 1 := by simp [BitVec.toNat_add]; omega
      simp only [rxWork, txWork, hq, this]
      refine ⟨?_, trivial⟩
      simp only [State.blen] at hm hl
      omega
    · simp only [State.goRx_rxSeq, rxWork, txWork, hq]
      refine ⟨by omega, rfl⟩
  case scan =>
    unfold execRxScan at h
    (repeat' split at h) <;> cases h <;> simp [rxWork, txWork, hq]
  case unpack =>
    unfold execRxUnpack at h
    simp only at h
    (repeat' split at h) <;> cases h
    simp [rxWork, txWork, hq]
  case parse =>
    unfold execRxParse at h
    (repeat' split at h) <;> cases h <;> simp [rxWork, txWork, hq]
  case filter =>
    unfold execRxFilter at h
    (repeat' split at h) <;> cases h <;> simp [rxWork, txWork, hq]
  case deliver =>
    unfold execRxDeliver at h
    (repeat' split at h) <;> cases h <;> simp_all [rxWork, txWork]
  case advance =>
    cases h
    simp [rxWork, txWork, hq]
  case trim =>
    unfold execRxTrim at h
    rw [trimmed_frame] at h
    (repeat' split at h) <;> cases h <;> simp [rxWork, txWork, hq]

/-- A turn of a sequencer that has something to do leaves less to do. -/
theorem ownTurn_work {s t : State} (hs : s.settled = false) (h : ownTurn s = .next t) :
    rxWork t + txWork t < rxWork s + txWork s := by
  unfold ownTurn at h
  split at h
  · next hb => have := txTurn_work hb h; omega
  · next hb =>
    have := rxTurn_work (by simpa [State.settled, hb] using hs) h
    omega

/-- A core with nothing to do is settled. -/
theorem settled_of_work {s : State} (h : rxWork s + txWork s = 0) : s.settled = true := by
  unfold rxWork txWork at h
  rw [settled_iff]
  cases hr : s.rxSeq <;> cases ht : s.txSeq <;> simp_all

/-- Enough turns settle the core. -/
theorem settle_settled {n : Nat} {s t : State} (hn : rxWork s + txWork s ≤ n) (h : settle n s = .next t) :
    t.settled = true := by
  induction n generalizing s with
  | zero =>
    cases h
    exact settled_of_work (by omega)
  | succ n ih =>
    rw [settle] at h
    split at h
    · next hs => cases h; exact hs
    · next hs =>
      split at h
      · next u hu => exact ih (by have := ownTurn_work (by simpa using hs) hu; omega) h
      · cases h
      · cases h

/-- R108, R239: a `TAKE` makes a transfer for each byte left of the pending record, and none where no event is pending. -/
theorem take_moves (s : State) : Line.moves s .take = List.replicate s.evtLeft .evt := rfl

theorem evtLeft_none {s : State} (h : s.evtValid = false) : s.evtLeft = 0 := by
  simp [State.evtLeft, h]

theorem evtLeft_pending {s : State} (h : s.evtValid = true) :
    s.evtLeft = 2 + min s.ev.slen.toNat 16 + min s.ev.mlen.toNat 16 - s.evi.toNat := by
  simp [State.evtLeft, h, Record.bytes_length]

/-- R15: after every atomic step the core is settled. -/
theorem atomicStep_settled {s t : State} (h : atomicStep s = .next t) : t.settled = true := by
  rw [atomicStep] at h
  split at h
  · next u _ => exact settle_settled (by have := rxWork_le u; have := txWork_le u; omega) h
  · cases h
  · cases h

end Sys2Proof.Machine
end

