-- ==== Sys2Proof/Laws/PerInstr.lean ====
section
/-! SUPPORT. Laws of every operation as syntax, one lemma for each constructor. -/
namespace Sys2Proof.Laws.EncodedSize

/-- The format of the encoding (R90) and, for a command, the record's length in bytes (R98): 1 without operand, 2 with a
mask, 2 and the data with a legal length, so at most 66. -/
def Statement (i : Instr) : Prop :=
  i.wellFormed = true →
    match encode i with
    | .cmd record => (1 ≤ record.length ∧ record.length ≤ 66) ∧ ∃ op, record[0]? = some op ∧ op.toNat ≤ 5
    | .rxseq code => 1 ≤ code.toNat ∧ code.toNat ≤ 10
    | .txseq code => 1 ≤ code.toNat
    | .sym _ => True

theorem nop : Statement .nop := fun _ => by simp [encode]
theorem start : Statement .start := fun _ => by simp [encode]
theorem stop : Statement .stop := fun _ => by simp [encode]
theorem setuser (name : List Byte) : Statement (.setuser name) := fun h => by
  simp [Instr.wellFormed] at h
  simp [encode, dataRecord]
  omega
theorem send (msg : List Byte) : Statement (.send msg) := fun h => by
  simp [Instr.wellFormed] at h
  simp [encode, dataRecord]
  omega
theorem clrerr (mask : Byte) : Statement (.clrerr mask) := fun _ => by simp [encode]
theorem rxAppend : Statement .rxAppend := fun _ => by simp [encode]
theorem rxGoertzel : Statement .rxGoertzel := fun _ => by simp [encode]
theorem rxSlice : Statement .rxSlice := fun _ => by simp [encode]
theorem rxScan : Statement .rxScan := fun _ => by simp [encode]
theorem rxUnpack : Statement .rxUnpack := fun _ => by simp [encode]
theorem rxParse : Statement .rxParse := fun _ => by simp [encode]
theorem rxFilter : Statement .rxFilter := fun _ => by simp [encode]
theorem rxDeliver : Statement .rxDeliver := fun _ => by simp [encode]
theorem rxAdvance : Statement .rxAdvance := fun _ => by simp [encode]
theorem rxTrim : Statement .rxTrim := fun _ => by simp [encode]
theorem txFrame : Statement .txFrame := fun _ => by simp [encode]
theorem txPack : Statement .txPack := fun _ => by simp [encode]
theorem txPlay : Statement .txPlay := fun _ => by simp [encode]
theorem tone0 : Statement .tone0 := fun _ => trivial
theorem tone1 : Statement .tone1 := fun _ => trivial
theorem tone2 : Statement .tone2 := fun _ => trivial
theorem tone3 : Statement .tone3 := fun _ => trivial
theorem tone4 : Statement .tone4 := fun _ => trivial
theorem tone5 : Statement .tone5 := fun _ => trivial
theorem tone6 : Statement .tone6 := fun _ => trivial
theorem tone7 : Statement .tone7 := fun _ => trivial

end Sys2Proof.Laws.EncodedSize
end

