-- ==== Sys2Proof/Tests/Slice0.lean ====
section
/-! SUPPORT. The model's own tests: ill-formed operands refused; the encodings of the table written out; at most two small
tests for an operation, each with the vector of 95_test_vectors.md it takes its result from; and, for every statement
with hypotheses, a state and operands that meet them. -/
namespace Sys2Proof.Tests

open Sys2Proof Sys2Proof.Machine Sys2Proof.Safety Host

/-! ### Helpers -/

/-- The start state of the vectors: reset, both devices available, `RD_MAX` as in 95_test_vectors.md section 3. -/
def start0 : State := { State.reset with adcOk := true, dacOk := true, rdMax := 9856 }
/-- A Running core that captures. -/
def run0 : State := { start0 with run := true, rxSeq := .capture }
/-- The bytes of "alice". -/
def alice : List Byte := [0x61, 0x6C, 0x69, 0x63, 0x65]
/-- The bytes of "hi". -/
def hi : List Byte := [0x68, 0x69]
/-- A core whose username is `u`. -/
def named (u : List Byte) (s : State) : State := s.setUser u
/-- What holds of the next state, where there is one. -/
def after (o : Outcome State Fault Refusal) (p : State → Bool) : Bool :=
  match o with
  | .next t => p t
  | .fault _ => false
  | .refused _ => false
/-- A candidate or event record. -/
def pair (snd msg : List Byte) : Record := Record.zero.store snd msg
/-- A state whose payload bytes are `bs`. -/
def withPbuf (bs : List Byte) (s : State) : State :=
  { s with pbuf := overwrite s.pbuf 0 bs, pcnt := BitVec.ofNat 5 bs.length }
/-- A state whose symbol list is `ys`. -/
def withSyms (ys : List Sys2Proof.Symbol) (s : State) : State :=
  { s with syms := overwrite s.syms 0 ys, scnt := BitVec.ofNat 6 ys.length }

/-! ### Ill-formed operands (R99) -/

theorem test_setuser_17_ill_formed : (Instr.setuser (List.replicate 17 0)).wellFormed = false := by decide
theorem test_setuser_16_well_formed : (Instr.setuser (List.replicate 16 0)).wellFormed = true := by decide
theorem test_send_65_ill_formed : (Instr.send (List.replicate 65 0)).wellFormed = false := by decide
theorem test_send_64_well_formed : (Instr.send (List.replicate 64 0)).wellFormed = true := by decide

/-! ### Encodings, written out from R98 and the codes of R23, R24, R91 -/

theorem test_decode_nop : decode (.cmd [0x00]) = .ok .nop := by decide
theorem test_decode_start : decode (.cmd [0x01]) = .ok .start := by decide
theorem test_decode_stop : decode (.cmd [0x02]) = .ok .stop := by decide
/-- R254's example: bytes 03 05 61 6C 69 63 65. -/
theorem test_decode_setuser : decode (.cmd [0x03, 0x05, 0x61, 0x6C, 0x69, 0x63, 0x65]) = .ok (.setuser alice) := by decide
/-- R255's example: bytes 04 02 68 69. -/
theorem test_decode_send : decode (.cmd [0x04, 0x02, 0x68, 0x69]) = .ok (.send hi) := by decide
theorem test_decode_send_empty : decode (.cmd [0x04, 0x00]) = .ok (.send []) := by decide
theorem test_decode_clrerr : decode (.cmd [0x05, 0x3F]) = .ok (.clrerr 0x3F) := by decide
/-- V65. -/
theorem test_decode_reserved : decode (.cmd [0x06]) = .rejected .reservedOpcode := by decide
/-- V64. -/
theorem test_decode_bad_len : decode (.cmd [0x04, 0x41]) = .rejected .badLen := by decide
theorem test_decode_rxAppend : decode (.rxseq 0b0001) = .ok .rxAppend := by decide
theorem test_decode_rxGoertzel : decode (.rxseq 0b0010) = .ok .rxGoertzel := by decide
theorem test_decode_rxSlice : decode (.rxseq 0b0011) = .ok .rxSlice := by decide
theorem test_decode_rxScan : decode (.rxseq 0b0100) = .ok .rxScan := by decide
theorem test_decode_rxUnpack : decode (.rxseq 0b0101) = .ok .rxUnpack := by decide
theorem test_decode_rxParse : decode (.rxseq 0b0110) = .ok .rxParse := by decide
theorem test_decode_rxFilter : decode (.rxseq 0b0111) = .ok .rxFilter := by decide
theorem test_decode_rxDeliver : decode (.rxseq 0b1000) = .ok .rxDeliver := by decide
theorem test_decode_rxAdvance : decode (.rxseq 0b1001) = .ok .rxAdvance := by decide
theorem test_decode_rxTrim : decode (.rxseq 0b1010) = .ok .rxTrim := by decide
theorem test_decode_rx_unused : decode (.rxseq 0b1011) = .rejected .unusedCode := by decide
theorem test_decode_txFrame : decode (.txseq 0b01) = .ok .txFrame := by decide
theorem test_decode_txPack : decode (.txseq 0b10) = .ok .txPack := by decide
theorem test_decode_txPlay : decode (.txseq 0b11) = .ok .txPlay := by decide
theorem test_decode_tone0 : decode (.sym 0b000) = .ok .tone0 := by decide
theorem test_decode_tone1 : decode (.sym 0b001) = .ok .tone1 := by decide
theorem test_decode_tone2 : decode (.sym 0b010) = .ok .tone2 := by decide
theorem test_decode_tone3 : decode (.sym 0b011) = .ok .tone3 := by decide
theorem test_decode_tone4 : decode (.sym 0b100) = .ok .tone4 := by decide
theorem test_decode_tone5 : decode (.sym 0b101) = .ok .tone5 := by decide
theorem test_decode_tone6 : decode (.sym 0b110) = .ok .tone6 := by decide
theorem test_decode_tone7 : decode (.sym 0b111) = .ok .tone7 := by decide
/-- A table word of 16 bits: bits 7..0 are the opcode, bits 15..8 the length byte. -/
theorem test_table_word_send : decodeTableWord 16 0x0104 = some (.send [0]) := by decide

/-! ### Operations -/

/-- V67. -/
theorem test_nop : after (exec .nop run0) (fun t => t = run0) = true := by decide
/-- V60, second half. -/
theorem test_start : after (exec .start { start0 with err := 1 })
    (fun t => t.run && t.err == 1 && t.rxSeq == .capture && t.adcReady) = true := by decide
/-- V60, first half. -/
theorem test_start_fail : after (exec .start { start0 with dacOk := false })
    (fun t => !t.run && t.err == 0b000001 && t.irqErr) = true := by decide
/-- V68: the frame is cut. -/
theorem test_stop_cuts : after (exec .stop { run0 with txSeq := .play, txBusy := true, err := 2 })
    (fun t => !t.run && !t.txBusy && !t.dacValid && t.err == 2 && t.rxSeq == .off) = true := by decide
/-- R169: an attempt in progress goes on, and the command port is closed. -/
theorem test_stop_winds_down : after (exec .stop { run0 with rxSeq := .scan })
    (fun t => t.rxSeq == .scan && !t.cmdReady) = true := by decide
/-- R254's example. -/
theorem test_setuser : after (exec (.setuser alice) start0) (fun t => t.username == some alice && t.ulen == 5) = true := by
  decide
/-- V63. -/
theorem test_setuser_running : after (exec (.setuser [0x78]) run0) (fun t => t.err == 0b001000 && t.ulen == 0) = true := by
  decide
/-- V61. -/
theorem test_send_stopped : after (exec (.send hi) start0) (fun t => t.err == 0b000010 && !t.txBusy) = true := by decide
/-- V62. -/
theorem test_send_busy : after (exec (.send [0x62]) { run0 with txBusy := true, txSeq := .play, txMsg := [0x61] })
    (fun t => t.err == 0b000100 && t.txMsg == [0x61] && t.txSeq == .play) = true := by decide
/-- V66. -/
theorem test_clrerr : after (exec (.clrerr 0x05) { start0 with err := 0b010101 }) (fun t => t.err == 0b010000) = true := by
  decide
/-- V66: bits 7 and 6 are ignored. -/
theorem test_clrerr_high_bits : after (exec (.clrerr 0xC0) { start0 with err := 0b010101 })
    (fun t => t.err == 0b010101) = true := by decide
/-- R161: a short burst is appended in order and fires nothing. -/
theorem test_append : after (exec .rxAppend { run0 with buf := [1, 2], adcData := [3, 4], adcLast := true })
    (fun t => t.buf == [1, 2, 3, 4] && t.rxSeq == .capture && t.adcData == []) = true := by decide
/-- R161's example: 5000 and 300 samples fire the trigger. -/
theorem test_append_triggers (s : State) (h : s.run = true) (hl : s.adcLast = true) (hb : s.blen + s.adcData.length = 5300) :
    (afterAppend (s.append s.adcData) s.adcData.length).rxSeq = .goertzel := by
  simp only [State.blen] at hb
  simp [afterAppend, triggers, State.append, h, hl, hb]
/-- V11: 175 zeros and 1000: a tie of all eight channels at 1000000. -/
theorem test_goertzel_tie : after (exec .rxGoertzel { run0 with buf := List.replicate 175 0 ++ [1000] })
    (fun t => t.en == Vector.replicate 8 1000000 && t.rxSeq == .slice) = true := by decide +kernel
/-- V17, V10: channel 0 over the tone of symbol 0. -/
theorem test_goertzel_tone0 : after (exec .rxGoertzel { run0 with buf := wave [0] })
    (fun t => (t.q1.get 0).toInt == -3358594 && (t.q2.get 0).toInt == 3695503 && t.en.get 0 == 6176421143892) = true := by
  decide +kernel
/-- V11: the tie goes to symbol 0. -/
theorem test_slice_tie : after (exec .rxSlice { run0 with en := Vector.replicate 8 1000000 })
    (fun t => t.dsym == 0 && t.scnt == 1 && t.rxSeq == .scan) = true := by decide +kernel
/-- V11, the row of the chunk 100, -50 and 174 zeros. -/
theorem test_slice_max : after (exec .rxSlice
      { run0 with en := #v[20513, 20970, 20261, 21760, 20417, 22045, 22180, 21348], cidx := 3 })
    (fun t => t.dsym == 6 && t.syms[3] == 6 && t.scnt == 4) = true := by decide +kernel
/-- V23: the first match of two. -/
theorem test_scan_first : after (exec .rxScan (withSyms [3, 3, 0, 7, 0, 7, 0, 7, 1, 2] run0))
    (fun t => t.matched && t.midx == 2 && t.rxSeq == .unpack) = true := by decide
/-- V22: the pattern is cut by the end of the list. -/
theorem test_scan_cut : after (exec .rxScan (withSyms [3, 3, 3, 0, 7, 0] run0))
    (fun t => !t.matched && t.rxSeq == .trim) = true := by decide
/-- V30. -/
theorem test_unpack : after (exec .rxUnpack
      (withSyms [0, 7, 0, 7, 0, 1, 2, 6, 0, 5, 5, 4, 3, 2, 2, 6, 1, 5, 4, 5, 3, 2, 0, 6, 4, 4] run0))
    (fun t => t.livePbuf == some (0x05 :: alice ++ hi) && t.rxSeq == .parse) = true := by decide +kernel
/-- V31. -/
theorem test_parse : after (exec .rxParse (withPbuf (0x05 :: alice ++ hi ++ [0]) run0))
    (fun t => t.parseOk && t.cd.sender == alice && t.cd.message == hi && t.cd.mlen == 2) = true := by decide
/-- V33. -/
theorem test_parse_slen : after (exec .rxParse (withPbuf [0x09, 0x61, 0x62] run0))
    (fun t => !t.parseOk && t.rxSeq == .advance && t.cd == run0.cd) = true := by decide
/-- V50. -/
theorem test_filter_self : after (exec .rxFilter (named alice { run0 with cd := pair alice hi }))
    (fun t => t.rxSeq == .advance) = true := by decide
/-- V50: a username that is a proper beginning of the sender. -/
theorem test_filter_shorter : after (exec .rxFilter (named [0x61, 0x6C, 0x69, 0x63] { run0 with cd := pair alice hi }))
    (fun t => t.rxSeq == .deliver) = true := by decide
/-- V51. -/
theorem test_deliver : after (exec .rxDeliver { run0 with cd := pair alice hi })
    (fun t => t.evtValid && t.evi == 0 && t.ev.slen == 5 && t.ev.message == hi && t.rxSeq == .advance) = true := by decide
/-- V51: the record is taken and the core is Stopped. -/
theorem test_deliver_stopped : after (exec .rxDeliver { start0 with cd := pair alice hi, evtValid := true })
    (fun t => t.ev == start0.ev && t.rxSeq == .advance) = true := by decide
/-- R207's example, V25. -/
theorem test_advance (b : List Sample) (h : b.length = 12000) :
    ∃ t, exec .rxAdvance { run0 with midx := 2, buf := b } = .next t ∧ t.blen = 2848 := by
  simp [exec, execRxAdvance, advanceLen, h]
/-- R166's example. -/
theorem test_trim (b : List Sample) (h : b.length = 18000) :
    ∃ t, exec .rxTrim { run0 with buf := b } = .next t ∧ t.blen = 8800 ∧ t.rxSeq = .capture := by
  simp [exec, execRxTrim, trimmed, h, run0]
/-- V45: 17600 samples are not trimmed. -/
theorem test_trim_not (b : List Sample) (h : b.length = 17600) :
    ∃ t, exec .rxTrim { start0 with buf := b } = .next t ∧ t.blen = 17600 ∧ t.rxSeq = .off := by
  simp [exec, execRxTrim, trimmed, h, start0, State.reset]
/-- V8. -/
theorem test_frame : after (exec .txFrame (named alice { run0 with txSeq := .frame, txMsg := hi }))
    (fun t => t.liveTxPay == some (0x05 :: alice ++ hi) && t.txLen == 8 && t.txSeq == .pack) = true := by decide
/-- V8: no username and no message. -/
theorem test_frame_empty : after (exec .txFrame { run0 with txSeq := .frame })
    (fun t => t.liveTxPay == some [0] && t.txLen == 1) = true := by decide
/-- V9: sender "alice", message "hi". -/
theorem test_pack : after (exec .txPack { run0 with txLen := 8 }) (fun t => t.txNSym == 26 && t.txSeq == .play) = true := by
  decide
/-- V9: the frame symbols of ("a", empty). -/
theorem test_frame_symbols : frameSyms [0x01, 0x61] = [0, 7, 0, 7, 0, 0, 2, 6, 0, 4] := by decide
/-- R146's example: sample 177 of the frame, the second of symbol 7. -/
theorem test_play : after (exec .txPlay
      { run0 with txSeq := .play, dacReady := true, txLen := 1, txNSym := 7, txSymI := 1, txN := 1 })
    (fun t => t.dacOut == [(6889, false)] && t.txN == 2 && t.txSeq == .play) = true := by decide +kernel
/-- R146: the final sample, `TONE(0, 175)` = 7277 (V1). -/
theorem test_play_last : after (exec .txPlay
      { run0 with
        txSeq := .play, txBusy := true, dacReady := true, txLen := 1, txNSym := 7, txSymI := 6, txN := 175 })
    (fun t => t.dacOut == [(7277, true)] && !t.txBusy && t.txSeq == .idle) = true := by decide +kernel
/-- V1, one entry of each row of the table. -/
theorem test_tone0 : after (exec .tone0 { run0 with txN := 1 }) (fun t => t.toneOut == 19434) = true := by decide
theorem test_tone1 : after (exec .tone1 { run0 with txN := 1 }) (fun t => t.toneOut == 17857) = true := by decide
theorem test_tone2 : after (exec .tone2 { run0 with txN := 3 }) (fun t => t.toneOut == 29050) = true := by decide
theorem test_tone3 : after (exec .tone3 { run0 with txN := 5 }) (fun t => t.toneOut == 16176) = true := by decide +kernel
theorem test_tone4 : after (exec .tone4 { run0 with txN := 175 }) (fun t => t.toneOut == 24773) = true := by decide +kernel
theorem test_tone5 : after (exec .tone5 { run0 with txN := 42 }) (fun t => t.toneOut == 0) = true := by decide +kernel
theorem test_tone6 : after (exec .tone6 { run0 with txN := 2 }) (fun t => t.toneOut.toInt == -16889) = true := by
  decide +kernel
theorem test_tone7 : after (exec .tone7 { run0 with txN := 3 }) (fun t => t.toneOut == 19164) = true := by decide +kernel

/-! ### Steps -/

/-- V65: a reserved opcode on the port. -/
theorem test_step_bad_cmd : after (step { start0 with moves := [.cmd 0x7F] })
    (fun t => t.err == 0b100000 && t.cmdSeq == .op) = true := by decide
/-- V64: an over-long length byte raises at once. -/
theorem test_step_bad_len : after (step { start0 with cmdSeq := .len, cmdOp := 0x03, moves := [.cmd 0x11] })
    (fun t => t.err == 0b010000 && t.cmdSkip && t.cmdSeq == .data) = true := by decide
/-- V52: the last byte of a record. -/
theorem test_step_event_last : after (step { start0 with ev := pair alice hi, evtValid := true, evi := 8, moves := [.evt] })
    (fun t => t.evtOut == [(0x69, true)] && !t.evtValid && t.evi == 0) = true := by decide
/-- V70: `rst` = 1 for one clock edge; `cmd_ready` is 0 until `rst` falls (R320). -/
theorem test_step_reset : after (step { run0 with evtValid := true, err := 5, moves := [.rst true] })
    (fun t => !t.run && !t.evtValid && t.err == 0 && t.rxSeq == .off && !t.cmdReady) = true := by decide
/-- V70: `cmd_ready` = 1 after `rst` falls. -/
theorem test_step_reset_falls : after (step { start0 with rst := true, moves := [.rst false] }) (fun t => t.cmdReady) = true := by
  decide
/-- R320: a command byte offered while `rst` is 1 is not transferred. -/
theorem test_step_held_in_reset : after (step { start0 with rst := true, moves := [.cmd 0x01] })
    (fun t => !t.run && t.rst) = true := by decide
/-- R15, R149: a `STOP` that finds a frame being built comes after the turn that builds on; it is still scheduled. A reset
does not wait. -/
theorem test_stop_waits_for_frame :
    after (step { run0 with txSeq := .frame, txBusy := true, txMsg := hi, moves := [.cmd 0x02] })
      (fun t => t.run && t.txSeq == .pack && t.moves == [.cmd 0x02]) = true ∧
    after (step { run0 with txSeq := .pack, txBusy := true, txLen := 1, moves := [.rst true] })
      (fun t => t.txSeq == .idle && t.rst) = true := by decide
/-- R15, R149: an accepted `SEND` and the construction of its frame are one atomic step, after which a `STOP` meets
`TX_PLAY`. -/
theorem test_atomic_send :
    after (atomicStep { run0 with cmdSeq := .len, cmdOp := 0x04, moves := [.cmd 0x00] })
      (fun t => t.txSeq == .play && t.txBusy && t.txNSym == 7) = true ∧
    after (atomicStep { run0 with txSeq := .play, txBusy := true, moves := [.cmd 0x02] })
      (fun t => t.txSeq == .idle && !t.txBusy && t.rxSeq == .off) = true := by decide +kernel
/-- R148: a frame cut at its final sample, offered but not taken, does not assert `dac_last`; nor does one played out. -/
theorem test_last_withdrawn :
    ({ run0 with txSeq := .play, txBusy := true, txNSym := 7, txSymI := 6, txN := 175 } : State).dacLastPin = true ∧
    after (exec .stop { run0 with txSeq := .play, txBusy := true, txNSym := 7, txSymI := 6, txN := 175 })
      (fun t => !t.dacLastPin && t.dacDataPin == none) = true := by decide
/-- P7: a `TAKE` takes the pending record (61, 68) and no byte of the one that waits in `RX_DELIVER`, which it makes pending. -/
theorem test_take_pending_only : after (runLine .take { run0 with
      rxSeq := .deliver, evtValid := true, ev := Record.zero.store [0x61] [0x68], cd := Record.zero.store [0x62] [] })
    (fun t => t.evtHistory == [[0x01, 0x61, 0x01, 0x68]] && t.evtValid && t.evi == 0 && t.ev.sender == [0x62] &&
      t.rxSeq == .capture) = true := by decide +kernel
/-- R108: a record of which two bytes are taken already is taken to its end, and no event gives no transfer. -/
theorem test_take_rest : after (runLine .take { run0 with
      evtValid := true, evi := 2, ev := Record.zero.store [0x61] [0x68] }) (fun t => !t.evtValid && t.evtOut.length == 2) =
      true ∧ after (runLine .take run0) (fun t => t.evtOut == []) = true := by decide +kernel
/-- R352: quiescent after reset and while capturing; not with an open record or an attempt waiting in `RX_DELIVER`. -/
theorem test_quiescent : State.reset.quiescent = true ∧ run0.quiescent = true ∧
    ({ run0 with cmdSeq := .len } : State).quiescent = false ∧ ({ run0 with rxSeq := .deliver } : State).quiescent = false ∧
    ({ run0 with burst := 1 } : State).quiescent = false := by decide
/-- R352: the bytes of two records, newest first, as the records the host took. -/
theorem test_event_history : ({ start0 with
    evtOut := [(0x00, true), (0x00, false), (0x68, true), (0x01, false), (0x00, false)] } : State).evtHistory =
      [[0x00, 0x01, 0x68], [0x00, 0x00]] := by decide
/-- R350: the reset state meets the launch premises, whatever the environment's pins and `RD_MAX`. -/
theorem test_launch_premises : ResetState start0 ∧ NoFault start0 ∧ NothingInFlight start0 ∧ RdMaxGiven start0 :=
  ⟨⟨rfl, rfl⟩, rfl, ⟨rfl, rfl, rfl, rfl⟩, by show 1 ≤ 9856; decide⟩

/-! ### States and operands that meet the hypotheses of the statements

Each theorem is named after the statement of Certificates/Slice0/Obligations.lean it is about; where the statement has
clauses, there is one state for each, at a boundary value where the clause has a range. -/

theorem test_meets_DecodeInvertsEncode :
    (Instr.setuser (List.replicate 16 0xFF)).wellFormed = true ∧ (Instr.send (List.replicate 64 0xFF)).wellFormed = true ∧
    Instr.tone7.wellFormed = true := by decide
theorem test_meets_DecodedEncodingIsCanonical :
    decode (.cmd [0x03, 0x01, 0x61]) = .ok (.setuser [0x61]) ∧ decode (.rxseq 10) = .ok .rxTrim ∧
    decode (.txseq 1) = .ok .txFrame ∧ decode (.sym 7) = .ok .tone7 := by decide
theorem test_meets_CommandRecordsDelimitThemselves :
    (Instr.send hi).wellFormed = true ∧ encode (.send hi) = .cmd [0x04, 0x02, 0x68, 0x69] := by decide
theorem test_meets_BadEncodingsAreRejected :
    6 ≤ (0x06#8).toNat ∧ 6 ≤ (0xFF#8).toNat ∧ 16 < (0x11#8).toNat ∧ 64 < (0x41#8).toNat ∧ 11 ≤ (0b1011#4).toNat ∧
    11 ≤ (0b1111#4).toNat := by decide
/-- In `C_OP`, in `C_LEN` and at the last byte in `C_DATA`. -/
theorem test_meets_StepRunsCompletedCommand :
    (start0.cmdReady = true ∧ start0.cmdSeq ≠ .data ∧ decode (.cmd (start0.record ++ [0x01])) = .ok .start) ∧
    (let s := { start0 with cmdSeq := .len, cmdOp := 0x05 };
      s.cmdReady = true ∧ decode (.cmd (s.record ++ [0xFF])) = .ok (.clrerr 0xFF)) ∧
    (let s := { start0 with cmdSeq := .data, cmdOp := 0x04, cmdLen := 1, cmdCnt := 0, cmdSkip := false };
      s.cmdReady = true ∧ s.cmdSkip = false ∧ s.txBuilding = false ∧
      decode (.cmd (s.record ++ [0x61])) = .ok (.send [0x61])) ∧
    start0.txBuilding = false ∧ ({ run0 with txSeq := .frame } : State).cmdReady = true ∧
    ({ run0 with txSeq := .pack } : State).cmdReady = true := by decide
theorem test_meets_StepRunsSequencerOperation :
    decode (.rxseq ({ run0 with rxSeq := .trim } : State).rxSeq.code) = .ok .rxTrim ∧
    decode (.txseq ({ run0 with txSeq := .play } : State).txSeq.code) = .ok .txPlay ∧
    run0.rst = false ∧ decode (.sym 0b111) = .ok .tone7 ∧ (run0.adcReady = true ∧ decode (.rxseq run0.rxSeq.code) = .ok .rxAppend) := by decide
theorem test_meets_IdleTurnsChangeNothing :
    ({ start0 with rxSeq := .trim } : State).cmdReady = false ∧ start0.adcReady = false ∧ start0.evtValid = false ∧
    start0.rxSeq = .off ∧ start0.txSeq = .idle ∧ start0.rst = false ∧
    ([.pins false true, .dacReady true, .rst false] : List Move).all (fun m =>
      decide (({ start0 with moves := [m] } : State).moves = m :: []) &&
      after (step { start0 with moves := [m] }) (fun t =>
        t.adcOk == (m != .pins false true) && t.dacOk && t.dacReady == (m == .dacReady true) && !t.rst)) = true := by
  decide
theorem test_meets_WholeRecordRunsItsCommand :
    (Instr.setuser (List.replicate 16 0x61)).wellFormed = true ∧
    encode (.setuser alice) = .cmd (0x03 :: 0x05 :: alice) ∧ start0.cmdSeq = .op ∧ start0.cmdReady = true ∧
    start0.txBuilding = false := by decide
theorem test_meets_OverlongRecordIsSkippedWhole :
    16 < (0x11#8).toNat ∧ (List.replicate 17 (0 : Byte)).length = (0x11#8).toNat ∧
    64 < (0x41#8).toNat ∧ (List.replicate 65 (0 : Byte)).length = (0x41#8).toNat ∧
    start0.cmdSeq = .op ∧ start0.cmdReady = true ∧ start0.txBuilding = false := by decide
theorem test_meets_ReservedOpcodeRaisesBadCmd :
    let s := { start0 with moves := [.cmd 0x06] }
    s.moves = .cmd 0x06 :: [] ∧ s.cmdReady = true ∧ s.txBuilding = false ∧ s.cmdSeq = .op ∧ 6 ≤ (0x06#8).toNat := by decide
theorem test_meets_StartEntersRunningOrFails :
    run0.run = true ∧ (start0.run = false ∧ start0.adcOk = true ∧ start0.dacOk = true) ∧
    (State.reset.run = false ∧ State.reset.adcOk = false) := by decide
theorem test_meets_StopLeavesRunning :
    start0.run = false ∧ (run0.run = true ∧ run0.rxSeq = .capture) ∧
    (({ run0 with rxSeq := .scan } : State).run = true ∧ ({ run0 with rxSeq := .scan } : State).rxSeq ≠ .capture) := by decide
theorem test_meets_SetuserWritesTheName :
    16 < (List.replicate 17 (0 : Byte)).length ∧ ((List.replicate 16 (0 : Byte)).length ≤ 16 ∧ run0.run = true) ∧
    ((List.replicate 16 (0 : Byte)).length ≤ 16 ∧ start0.run = false) := by decide
theorem test_meets_SendIsAcceptedOrRefused :
    64 < (List.replicate 65 (0 : Byte)).length ∧ ((List.replicate 64 (0 : Byte)).length ≤ 64 ∧ start0.run = false) ∧
    (run0.run = true ∧ ({ run0 with txBusy := true } : State).txBusy = true) ∧ run0.txBusy = false := by decide
theorem test_meets_OperationRaisesAtMostOneError :
    after (exec .start { start0 with dacOk := false }) (fun t => t.err != start0.err) = true ∧
    after (exec (.setuser alice) run0) (fun t => t.err != run0.err) = true ∧
    after (exec (.send hi) start0) (fun t => t.err != start0.err) = true ∧
    after (exec (.clrerr 0xFF) { start0 with err := 1 }) (fun t => t.err != 1) = true := by decide
/-- Steps out of reset that change `ERR`: a bit cleared, and one raised by the decoder at an opcode and at a length. -/
theorem test_meets_OperationRaisesAtMostOneError_step :
    (let s := { start0 with cmdSeq := .len, cmdOp := 0x05, err := 1, moves := [.cmd 0x01] };
      s.resets s.nextMove = false ∧ s.err.getLsbD 0 = true ∧ after (step s) (fun t => !t.err.getLsbD 0) = true) ∧
    (let s := { start0 with moves := [.cmd 0x06] };
      s.resets s.nextMove = false ∧ after (step s) (fun t => t.err != s.err) = true) ∧
    (let s := { start0 with cmdSeq := .len, cmdOp := 0x04, moves := [.cmd 0x41] };
      s.resets s.nextMove = false ∧ after (step s) (fun t => t.err != s.err) = true) := by decide
/-- A full buffer and a burst of `RD_MAX` = 2, for each clause on `RUN` and `adc_last`. -/
theorem test_meets_AppendStoresTheBurst (b : List Sample) (h : b.length = 17600) :
    let s := { run0 with rdMax := 2, buf := b, adcData := [1, 2] }
    s.adcData ≠ [] ∧ s.burst + s.adcData.length ≤ s.rdMax ∧ s.blen + s.adcData.length ≤ 17600 + s.rdMax ∧
    ({ s with run := false } : State).run = false ∧
    (s.run = true ∧ ({ s with adcLast := false } : State).adcLast = false) ∧
    (({ s with adcLast := true } : State).adcLast = true ∧ 5280 ≤ s.blen + s.adcData.length) := by
  simp [h, run0, start0, State.reset]
/-- At 5280 samples, the first length that fires the trigger, and at 5279, the last that does not. -/
theorem test_meets_AppendStoresTheBurst_edge (b c : List Sample) (hb : b.length = 5278) (hc : c.length = 5277) :
    (let s := { run0 with buf := b, adcData := [1, 2], adcLast := true };
      s.run = true ∧ s.adcLast = true ∧ s.adcData ≠ [] ∧ s.blen + s.adcData.length = 5280) ∧
    (let s := { run0 with buf := c, adcData := [1, 2], adcLast := true };
      s.run = true ∧ s.adcLast = true ∧ s.adcData ≠ [] ∧ s.blen + s.adcData.length = 5279) := by
  simp [hb, hc, run0]
theorem test_meets_AppendRefusesAndWaits :
    (let s := { run0 with rdMax := 1, adcData := [1, 2] }; s.adcData ≠ [] ∧ s.rdMax < s.burst + s.adcData.length) ∧
    (run0.adcData = [] ∧ run0.run = true) ∧ (start0.adcData = [] ∧ start0.run = false) := by decide
theorem test_meets_TrimKeepsTheNewestSamples (b c : List Sample) (hb : b.length = 17601) (hc : c.length = 17600) :
    17600 < ({ run0 with buf := b } : State).blen ∧ ({ run0 with buf := c } : State).blen ≤ 17600 ∧
    run0.run = true ∧ start0.run = false := by
  simp [hb, hc, run0, start0, State.reset]

/-- The invariants hold of a Running core. -/
theorem test_inv_run0 : CoreInv run0 := by constructor <;> decide +kernel
/-- They hold of a Stopped core. -/
theorem test_inv_start0 : CoreInv start0 := by constructor <;> decide +kernel
/-- They hold while `rst` = 1. -/
theorem test_inv_held : CoreInv { start0 with rst := true } := by
  constructor <;> first | exact fun _ => rfl | decide +kernel
/-- They hold in a wind-down. -/
theorem test_inv_winding : CoreInv { start0 with rxSeq := .trim } := by constructor <;> decide
/-- A Running core in `TX_PLAY` at sample `n` of symbol `i` of the 7-symbol frame of a 1-byte payload. -/
def playing (i n : BitVec 8) : State :=
  { run0 with txSeq := .play, txBusy := true, dacReady := true, txLen := 1, txNSym := 7, txSymI := i, txN := n }
/-- They hold at the first and at the final sample of a frame. -/
theorem test_inv_playing : CoreInv (playing 0 0) ∧ CoreInv (playing 6 175) := by
  constructor <;> constructor <;> decide
/-- They hold once the payload is built. -/
theorem test_inv_packing : CoreInv { run0 with txSeq := .pack, txBusy := true, txLen := 81 } := by
  constructor <;> decide
/-- A Running core at the end of an attempt that matched at index 46 of 50 symbols. -/
def ending : State := { run0 with rxSeq := .trim, matched := true, midx := 46, scnt := 50 }
/-- They hold at the end of an attempt. -/
theorem test_inv_ending : CoreInv ending := by constructor <;> decide
/-- They hold whatever is scheduled. -/
theorem test_inv_scheduled {s : State} (h : CoreInv s) (ms : List Move) : CoreInv { s with moves := ms } :=
  { h with held := fun x => congrArg (fun u : State => { u with moves := ms }) (h.held x) }
/-- They hold while a frame is being built. -/
theorem test_inv_sending : CoreInv { run0 with txSeq := .frame, txBusy := true, txMsg := hi } := by constructor <;> decide

theorem test_meets_IterationMatchesItsFunction :
    CoreInv run0 ∧ run0.rxSeq = .capture ∧ run0.burst = 0 ∧ run0.evtValid = false ∧ [(5 : Sample)] ≠ [] ∧
    [(5 : Sample)].length ≤ run0.rdMax := ⟨test_inv_run0, by decide⟩
theorem test_meets_WindDownReachesOff :
    CoreInv { start0 with rxSeq := .trim } ∧ ({ start0 with rxSeq := .trim } : State).rst = false ∧
    ({ start0 with rxSeq := .trim } : State).run = false :=
  ⟨test_inv_winding, by decide⟩
theorem test_meets_GoertzelFillsTheBank (b c : List Sample) (hb : b.length = 176) (hc : c.length = 175) :
    176 * ({ run0 with buf := b } : State).cidx.toNat + 176 ≤ ({ run0 with buf := b } : State).blen ∧
    ({ run0 with buf := c } : State).blen < 176 * ({ run0 with buf := c } : State).cidx.toNat + 176 := by
  simp [hb, hc, run0, start0, State.reset]
theorem test_meets_LaneRegistersStayInBounds : (List.replicate 176 (-32768 : Sample)).length ≤ 176 :=
  List.length_replicate.le
theorem test_meets_DetectorRegistersAreExact : (List.replicate 176 (32767 : Sample)).length = 176 :=
  List.length_replicate
theorem test_meets_SlicePicksLowestMaximum :
    let s := { run0 with cidx := 49 }
    s.cidx.toNat < 50 ∧ min (s.blen / 176) 50 ≤ s.cidx.toNat + 1 := by decide
theorem test_meets_SlicePicksLowestMaximum_next (b : List Sample) (h : b.length = 8800) :
    let s := { run0 with cidx := 48, buf := b }
    s.cidx.toNat < 50 ∧ s.cidx.toNat + 1 < min (s.blen / 176) 50 := by simp [h]
theorem test_meets_SilenceDetectsAsSymbolZero :
    (let s := { run0 with buf := List.replicate 176 0 };
      (s.buf.drop (176 * s.cidx.toNat)).take 176 = List.replicate 176 0) ∧
    run0.cidx.toNat < 50 ∧ ∀ i j : Fin 8, run0.en.get i = run0.en.get j := by decide +kernel
theorem test_meets_ToneSegmentsDetectAsThemselves : (0 : Fin 8).val ≠ (7#3).toNat := by decide
/-- V21: the last valid offset, 46. -/
theorem test_meets_ScanFindsFirstPreamble :
    let s := withSyms (List.replicate 46 3 ++ [0, 7, 0, 7]) run0
    s.scnt.toNat ≤ 50 ∧ (46 + 4 ≤ s.scnt.toNat ∧ s.syms[46]? = some 0 ∧ s.syms[47]? = some 7 ∧ s.syms[48]? = some 0 ∧
      s.syms[49]? = some 7) ∧ ∀ j, j < 46 → s.syms[j]? ≠ some 0 := by decide +kernel
/-- V22: 50 symbols 0, no preamble. -/
theorem test_meets_ScanFindsFirstPreamble_none :
    let s := withSyms (List.replicate 50 0) run0
    s.scnt.toNat ≤ 50 ∧ ∀ i, i < 50 → s.syms[i + 1]? ≠ some 7 := by decide +kernel
theorem test_meets_UnpackRecoversWindowBytes : ({ run0 with scnt := 50, midx := 0 } : State).scnt.toNat ≤ 50 := by decide
/-- V32, V33 and V31: too short, a sender length of 17, and the longest sender. -/
theorem test_meets_ParseSplitsThePayload :
    (withPbuf [0x05] run0).pcnt.toNat < 2 ∧
    (let s := withPbuf (0x11 :: List.replicate 16 0) run0; s.pcnt.toNat ≤ 17 ∧ s.pcnt.toNat - 1 < s.pbuf[0].toNat) ∧
    (let s := withPbuf (0x10 :: List.replicate 16 0) run0;
      s.pcnt.toNat ≤ 17 ∧ 2 ≤ s.pcnt.toNat ∧ s.pbuf[0].toNat ≤ s.pcnt.toNat - 1) := by decide +kernel
/-- V50: an equal name, and the empty username against a name. -/
theorem test_meets_FilterDropsOwnName :
    (let s := named alice { run0 with cd := pair alice hi };
      s.ulen.toNat ≤ 16 ∧ s.cd.slen = s.ulen ∧ ∀ j, j < s.ulen.toNat → s.cd.snd[j]? = s.user[j]?) ∧
    (let s := { run0 with cd := pair alice hi }; s.ulen.toNat ≤ 16 ∧ s.cd.slen ≠ s.ulen) := by decide +kernel
theorem test_meets_DeliverCopiesWaitsOrDrops :
    (let s := { run0 with cd := pair (List.replicate 16 0x61) [] };
      s.cd.slen.toNat ≤ 16 ∧ s.cd.mlen.toNat ≤ 16 ∧ s.evtValid = false) ∧
    (let s := { start0 with cd := pair [] (List.replicate 16 0x61), evtValid := true };
      s.cd.slen.toNat ≤ 16 ∧ s.cd.mlen.toNat ≤ 16 ∧ s.evtValid = true ∧ s.run = false) ∧
    ({ run0 with evtValid := true } : State).run = true := by decide
/-- The first byte, the `mlen` byte, a message byte that is the last, and a first byte that is not. -/
theorem test_meets_EventPortTransfersOneByte :
    (let s := { start0 with ev := pair alice hi, evtValid := true, evi := 0, moves := [.evt] };
      s.moves = .evt :: [] ∧ s.rst = false ∧ s.evtValid = true ∧ s.ev.slen.toNat ≤ 16 ∧ s.ev.mlen.toNat ≤ 16 ∧
      s.evi.toNat + 1 < 2 + s.ev.slen.toNat + s.ev.mlen.toNat) ∧
    (let s := { start0 with ev := pair alice hi, evtValid := true, evi := 6 };
      s.evi.toNat = 1 + s.ev.slen.toNat) ∧
    (let s := { start0 with ev := pair alice hi, evtValid := true, evi := 8 };
      s.evi.toNat = 2 + s.ev.slen.toNat + 1 ∧ s.evi.toNat + 1 = 2 + s.ev.slen.toNat + s.ev.mlen.toNat) ∧
    (let s := { start0 with ev := pair alice hi, evtValid := true, evi := 5 };
      4 < s.ev.slen.toNat ∧ s.evi.toNat = 1 + 4) := by decide
/-- The longest record, of 18 bytes, and the shortest, of 2. -/
theorem test_meets_TakeReadsTheWholeRecord :
    (let s := { start0 with ev := pair (List.replicate 9 0x61) (List.replicate 7 0x62), evtValid := true };
      s.rst = false ∧ s.evtValid = true ∧ s.evi = 0 ∧ s.ev.slen.toNat + s.ev.mlen.toNat = 16) ∧
    (let s := { start0 with ev := pair [] [], evtValid := true };
      s.rst = false ∧ s.evtValid = true ∧ s.evi = 0 ∧ s.ev.slen.toNat + s.ev.mlen.toNat = 0) := by decide
theorem test_meets_PendingEventIsFrozen :
    let s := { start0 with evtValid := true, moves := [.cmd 0x00] }
    s.evtValid = true ∧ s.resets s.nextMove = false ∧ after (step s) (fun t => t.ev == s.ev) = true := by decide
theorem test_meets_ToneReadsTheTable :
    ({ run0 with txN := 175 } : State).txN.toNat ≤ 175 ∧ 175 < ({ run0 with txN := 176 } : State).txN.toNat := by decide
theorem test_meets_FrameBuildsThePayload :
    let s := { named (List.replicate 16 0x61) run0 with txMsg := List.replicate 64 0x62 }
    s.ulen.toNat ≤ 16 ∧ s.txMsg.length ≤ 64 := by decide
theorem test_meets_PackSetsTheCounters : ({ run0 with txLen := 81 } : State).txLen.toNat ≤ 81 := by decide
/-- The last preamble symbol, the first and the last payload symbol of 81 bytes, and one index too many. -/
theorem test_meets_FrameSymbolIsItsBits :
    let s := { run0 with txLen := 81 }
    s.txLen.toNat ≤ 81 ∧ ({ s with txSymI := 3 } : State).txSymI.toNat < 4 ∧
    4 ≤ ({ s with txSymI := 4 } : State).txSymI.toNat ∧
    ({ s with txSymI := 219 } : State).txSymI.toNat < 4 + (8 * s.txLen.toNat + 2) / 3 ∧
    4 + (8 * s.txLen.toNat + 2) / 3 ≤ ({ s with txSymI := 220 } : State).txSymI.toNat := by decide
theorem test_meets_PlayHandsOverOneSample :
    start0.run = false ∧ (run0.run = true ∧ run0.dacReady = false) ∧
    (let s := { run0 with dacReady := true, txLen := 81, txNSym := 220, txSymI := 219, txN := 175 };
      s.run = true ∧ s.dacReady = true ∧ s.txLen.toNat ≤ 81 ∧ s.txSymI.toNat < 4 + (8 * s.txLen.toNat + 2) / 3 ∧
      s.txN.toNat = 175 ∧ s.txSymI.toNat + 1 = s.txNSym.toNat) ∧
    (let s := { run0 with txLen := 81, txNSym := 220, txSymI := 218, txN := 175 };
      s.txN.toNat = 175 ∧ s.txSymI.toNat + 1 ≠ s.txNSym.toNat) ∧
    ({ run0 with txN := 174 } : State).txN.toNat < 175 := by decide
theorem test_meets_WholeFrameIsItsWaveform :
    let s := { named (List.replicate 16 0x61) run0 with
      txSeq := .frame, txBusy := true, dacReady := true, txMsg := List.replicate 64 0x62 }
    s.rst = false ∧ s.txSeq = .frame ∧ s.run = true ∧ s.dacReady = true ∧ s.ulen.toNat ≤ 16 ∧ s.txMsg.length ≤ 64 := by decide
/-- The longest payload that is received whole, with no silence after it; a short one with silence; both names. -/
theorem test_meets_LoopbackDeliversTheFrame :
    (let u : List Byte := List.replicate 16 0x61;
      1 + u.length + ([] : List Byte).length ≤ 17 ∧ ([] : List Byte).getLast? ≠ some 0 ∧ u ≠ alice ∧
      5280 ≤ (wave (frameSyms (payload u [])) ++ List.replicate 0 (0 : Sample)).length) ∧
    (1 + alice.length + hi.length ≤ 17 ∧ hi.getLast? ≠ some 0 ∧ alice = alice ∧
      5280 ≤ (wave (frameSyms (payload alice hi)) ++ List.replicate 704 (0 : Sample)).length) ∧
    (1 + ([] : List Byte).length + ([] : List Byte).length ≤ 17 ∧ ([] : List Byte).getLast? ≠ some 0 ∧ [] ≠ alice ∧
      5280 ≤ (wave (frameSyms (payload [] [])) ++ List.replicate 4048 (0 : Sample)).length) := by
  simp only [List.length_append, wave_length, frameSyms_length, payload_length, List.length_replicate, paySyms]
  decide
theorem test_meets_OutOfRangeAccessFaults :
    50 ≤ ({ run0 with cidx := 50 } : State).cidx.toNat ∧ 50 < ({ run0 with scnt := 51 } : State).scnt.toNat ∧
    17 < ({ run0 with pcnt := 18 } : State).pcnt.toNat ∧ 16 < ({ run0 with ulen := 17 } : State).ulen.toNat ∧
    81 < ({ run0 with txLen := 82 } : State).txLen.toNat ∧
    (let s := { named (List.replicate 16 0x61) run0 with txMsg := List.replicate 65 0 };
      s.ulen.toNat ≤ 16 ∧ 80 < s.ulen.toNat + s.txMsg.length) ∧
    (let s := { run0 with dacReady := true, txLen := 1, txSymI := 7 };
      s.run = true ∧ s.dacReady = true ∧ 4 + (8 * s.txLen.toNat + 2) / 3 ≤ s.txSymI.toNat) ∧
    (let s := { run0 with dacReady := true, txLen := 1, txSymI := 6, txN := 176 };
      s.txLen.toNat ≤ 81 ∧ s.txSymI.toNat < 4 + (8 * s.txLen.toNat + 2) / 3 ∧ 175 < s.txN.toNat) := by decide
theorem test_meets_OutOfRangeAccessFaults_buf (b : List Sample) (h : b.length = 17600) :
    let s := { run0 with rdMax := 2, buf := 0 :: b, adcData := [1, 2] }
    s.adcData ≠ [] ∧ s.burst + s.adcData.length ≤ s.rdMax ∧ 17600 + s.rdMax < s.blen + s.adcData.length := by
  simp [h, run0, start0, State.reset]
/-- A reset while Running; in reset, an offer and each move of the environment. -/
theorem test_meets_ResetEdgeRestoresReset :
    ({ run0 with moves := [.rst true] } : State).moves = .rst true :: [] ∧
    (let s := { start0 with rst := true, moves := [.cmd 0x01] }; s.rst = true ∧ s.moves = .cmd 0x01 :: []) ∧
    ({ start0 with rst := true, moves := [.pins true true] } : State).moves = .pins true true :: [] ∧
    ({ start0 with rst := true, moves := [.dacReady true] } : State).moves = .dacReady true :: [] ∧
    ({ start0 with rst := true, moves := [.rst false] } : State).moves = .rst false :: [] := by decide
/-- One Stopped and one Running core, each with a next state. -/
theorem test_meets_EveryStepKeepsCoreInv :
    (CoreInv { run0 with moves := [.adc [1] true] } ∧
      after (step { run0 with moves := [.adc [1] true] }) (fun t => t.blen == 1) = true) ∧
    (CoreInv { ending with moves := [.cmd 0x00] } ∧
      after (atomicStep { ending with moves := [.cmd 0x00] }) (fun t => t.matched && t.rxSeq == .capture) = true) :=
  ⟨⟨test_inv_scheduled test_inv_run0 _, by decide⟩, test_inv_scheduled test_inv_ending _, by decide⟩
theorem test_meets_NoStepFaultsUnderCoreInv : CoreInv start0 := test_inv_start0
theorem test_meets_UsernameChangesOnlyStopped :
    let s := { start0 with cmdSeq := .len, cmdOp := 0x03, ulen := 1, moves := [.cmd 0x00] }
    after (step s) (fun t => t.ulen != s.ulen) = true := by decide
theorem test_meets_RunChangesOnlyByStartStop :
    (start0.run = false ∧ after (step { start0 with moves := [.cmd 0x01] }) (fun t => t.run) = true) ∧
    (run0.run = true ∧ after (step { run0 with moves := [.cmd 0x02] }) (fun t => !t.run) = true) := by decide
theorem test_meets_SamplesEnterOnlyWhileCapturing :
    CoreInv run0 ∧ after (step { run0 with moves := [.adc [1, 2] false] }) (fun t => run0.blen < t.blen) = true :=
  ⟨test_inv_run0, by decide⟩
theorem test_meets_OnlyPlayDrivesTheDac :
    let s := { run0 with
      txSeq := .play, txBusy := true, dacReady := true, txLen := 1, txNSym := 7, moves := [.tx] }
    after (step s) (fun t => t.dacOut != s.dacOut) = true := by decide +kernel
theorem test_meets_FrameInFlightIsUndisturbed :
    (CoreInv run0 ∧ run0.txBusy = false ∧
      after (step { run0 with cmdSeq := .len, cmdOp := 0x04, moves := [.cmd 0x00] }) (fun t => t.txBusy) = true) ∧
    (CoreInv { run0 with txSeq := .frame, txBusy := true, txMsg := hi } ∧
      after (step { run0 with txSeq := .frame, txBusy := true, txMsg := hi, moves := [.tx] }) (fun t => t.txBusy) = true) ∧
    (CoreInv { run0 with txSeq := .pack, txBusy := true, txLen := 81, moves := [.tx] } ∧
      after (step { run0 with txSeq := .pack, txBusy := true, txLen := 81, moves := [.tx] })
        (fun t => t.txBusy && t.txSeq == .play) = true) ∧
    (CoreInv { playing 0 0 with moves := [.tx] } ∧
      after (step { playing 0 0 with moves := [.tx] }) (fun t => t.txBusy && t.txN == 1) = true) ∧
    (CoreInv { playing 6 175 with moves := [.tx] } ∧
      after (step { playing 6 175 with moves := [.tx] }) (fun t => !t.txBusy) = true) ∧
    (CoreInv { playing 6 175 with moves := [.cmd 0x02] } ∧
      after (step { playing 6 175 with moves := [.cmd 0x02] }) (fun t => !t.txBusy) = true) ∧
    (CoreInv { playing 0 0 with moves := [.rst true] } ∧
      after (step { playing 0 0 with moves := [.rst true] }) (fun t => !t.txBusy) = true) :=
  ⟨⟨test_inv_run0, by decide⟩, ⟨test_inv_sending, by decide⟩, ⟨test_inv_scheduled test_inv_packing _, by decide⟩,
    ⟨test_inv_scheduled test_inv_playing.1 _, by decide +kernel⟩, ⟨test_inv_scheduled test_inv_playing.2 _, by decide +kernel⟩,
    ⟨test_inv_scheduled test_inv_playing.2 _, by decide⟩, test_inv_scheduled test_inv_playing.1 _, by decide⟩
theorem test_meets_SidesAreIndependent :
    after (exec .rxTrim run0) (fun t => t.rxSeq == .capture) = true ∧
    after (exec .txPack { run0 with txLen := 1 }) (fun t => t.txSeq == .play) = true := by decide
theorem test_meets_StoppedCoreIsQuiet :
    CoreInv start0 ∧ start0.run = false ∧ start0.rxSeq = .off ∧
    after (step { start0 with moves := [.adc [1] true] }) (fun t => t.blen == 0) = true :=
  ⟨test_inv_start0, by decide⟩

end Sys2Proof.Tests
end

section
/-! PROOF. What the command decoder makes of the bytes it is given (R98, R99, R102, R258). -/
namespace Sys2Proof

/-- R98, R99: the operations the command decoder hands over, their data within the limits. -/
inductive LegalCommand : Instr → Prop
  | nop : LegalCommand .nop
  | start : LegalCommand .start
  | stop : LegalCommand .stop
  | setuser {name : List Byte} (h : name.length ≤ 16) : LegalCommand (.setuser name)
  | send {msg : List Byte} (h : msg.length ≤ 64) : LegalCommand (.send msg)
  | clrerr (mask : Byte) : LegalCommand (.clrerr mask)

/-- R99: the length byte is within the limit of the opcode. -/
def DataFits (op len : Byte) : Prop := (op = 3 ∧ len.toNat ≤ 16) ∨ (op = 4 ∧ len.toNat ≤ 64)

/-- R99: the length byte is above the limit of the opcode. -/
def DataTooLong (op len : Byte) : Prop := (op = 3 ∧ 16 < len.toNat) ∨ (op = 4 ∧ 64 < len.toNat)

/-- Data that is decoded is within the limit. -/
theorem decodeData_ok {limit : Nat} {mk : List Byte → Instr} {bytes rest : List Byte} {i : Instr}
    (h : decodeData limit mk bytes = .ok i rest) : ∃ d : List Byte, d.length ≤ limit ∧ i = mk d := by
  cases bytes with
  | nil => cases h
  | cons len data =>
    rw [decodeData] at h
    split_ifs at h with hl hd
    cases h
    exact ⟨_, by simp; omega, rfl⟩

/-- Data of exactly the declared length is taken whole. -/
theorem decodeData_whole {limit : Nat} {mk : List Byte → Instr} {len : Byte} {data : List Byte}
    (hl : len.toNat ≤ limit) (hd : data.length = len.toNat) :
    decodeData limit mk (len :: data) = .ok (mk data) [] := by
  rw [decodeData, if_neg (by omega), if_neg (by omega), ← hd, List.take_length, List.drop_length]

/-- A length byte alone: too long, an empty datum, or data still to come. -/
theorem decodeData_lengthByte (limit : Nat) (mk : List Byte → Instr) (len : Byte) :
    decodeData limit mk [len] =
      if limit < len.toNat then .rejected .badLen
      else if 0 < len.toNat then .rejected .incomplete
      else .ok (mk []) [] := by
  simp [decodeData]

/-- Every operation the command decoder hands over is legal. -/
theorem decodeStream_legal {bytes rest : List Byte} {i : Instr} (h : decodeStream bytes = .ok i rest) :
    LegalCommand i := by
  cases bytes with
  | nil => cases h
  | cons op data =>
    simp only [decodeStream] at h
    split_ifs at h
    · cases h; exact .nop
    · cases h; exact .start
    · cases h; exact .stop
    · obtain ⟨d, hd, rfl⟩ := decodeData_ok h
      exact .setuser hd
    · obtain ⟨d, hd, rfl⟩ := decodeData_ok h
      exact .send hd
    · cases data with
      | nil => cases h
      | cons mask _ => cases h; exact .clrerr mask

theorem decode_cmd_legal {record : List Byte} {i : Instr} (h : decode (.cmd record) = .ok i) : LegalCommand i := by
  simp only [decode, decodeCmd] at h
  split at h
  · next hs => cases h; exact decodeStream_legal hs
  · cases h
  · cases h

/-- R98, R102: a byte in `C_OP` is a whole record, opens one with an operand byte, or is reserved. -/
theorem decode_opcode (b : Byte) :
    (∃ i, decode (.cmd [b]) = .ok i) ∨
    ((b = 3 ∨ b = 4 ∨ b = 5) ∧ decode (.cmd [b]) = .rejected .incomplete) ∨
    (6 ≤ b.toNat ∧ decode (.cmd [b]) = .rejected .reservedOpcode) := by
  by_cases hb : 6 ≤ b.toNat
  · have hne : ∀ c : Byte, c.toNat < 6 → b ≠ c := fun c hc e => absurd (e ▸ hb) (by omega)
    exact .inr (.inr ⟨hb, by simp [decode, decodeCmd, decodeStream, hne]⟩)
  · obtain rfl | rfl | rfl | rfl | rfl | rfl : b = 0 ∨ b = 1 ∨ b = 2 ∨ b = 3 ∨ b = 4 ∨ b = 5 := by bv_omega
    · exact .inl ⟨.nop, rfl⟩
    · exact .inl ⟨.start, rfl⟩
    · exact .inl ⟨.stop, rfl⟩
    · exact .inr (.inl ⟨by simp, rfl⟩)
    · exact .inr (.inl ⟨by simp, rfl⟩)
    · exact .inr (.inl ⟨by simp, rfl⟩)

/-- R98, R99: the byte after an opcode that has an operand completes the record, opens its data, or is too long. -/
theorem decode_operand {op : Byte} (b : Byte) (h : op = 3 ∨ op = 4 ∨ op = 5) :
    (∃ i, decode (.cmd [op, b]) = .ok i) ∨
    (DataFits op b ∧ 0 < b.toNat ∧ decode (.cmd [op, b]) = .rejected .incomplete) ∨
    (DataTooLong op b ∧ decode (.cmd [op, b]) = .rejected .badLen) := by
  obtain rfl | rfl | rfl := h
  · have e : decodeStream [3, b] = decodeData 16 .setuser [b] := rfl
    simp only [decode, decodeCmd, e, decodeData_lengthByte, DataFits, DataTooLong]
    split_ifs <;> simp <;> omega
  · have e : decodeStream [4, b] = decodeData 64 .send [b] := rfl
    simp only [decode, decodeCmd, e, decodeData_lengthByte, DataFits, DataTooLong]
    split_ifs <;> simp <;> omega
  · exact .inl ⟨.clrerr b, rfl⟩

/-- R98, R99: `BAD_LEN` is the answer to a length byte above its limit only. -/
theorem dataTooLong_of_badLen {op b : Byte} (h : decode (.cmd [op, b]) = .rejected .badLen) : DataTooLong op b := by
  by_cases ho : op = 3 ∨ op = 4 ∨ op = 5
  · obtain ⟨i, hi⟩ | ⟨_, _, hi⟩ | ⟨hl, _⟩ := decode_operand b ho
    · simp [hi] at h
    · simp [hi] at h
    · exact hl
  · obtain ⟨h3, h4, h5⟩ : op ≠ 3 ∧ op ≠ 4 ∧ op ≠ 5 := by simpa using ho
    simp only [decode, decodeCmd, decodeStream] at h
    split_ifs at h <;> simp_all

/-- R98: a record whose data has the declared length, within the limit, is a whole record. -/
theorem decode_wholeRecord {op len : Byte} {data : List Byte} (hf : DataFits op len) (hd : data.length = len.toNat) :
    ∃ i, decode (.cmd (op :: len :: data)) = .ok i := by
  obtain ⟨rfl, hl⟩ | ⟨rfl, hl⟩ := hf
  · have e : decodeStream (3 :: len :: data) = decodeData 16 .setuser (len :: data) := rfl
    exact ⟨.setuser data, by simp only [decode, decodeCmd, e, decodeData_whole hl hd]⟩
  · have e : decodeStream (4 :: len :: data) = decodeData 64 .send (len :: data) := rfl
    exact ⟨.send data, by simp only [decode, decodeCmd, e, decodeData_whole hl hd]⟩

end Sys2Proof
end

section
/-! PROOF. What every operation can do when it completes: the six commands case by case, the other operations by the
fields they may write. -/
namespace Sys2Proof.Machine

open Host (Outcome)

variable {s t : State}

/-! ### The commands (R251 to R256) -/

/-- R281, R286: which command raises which cause. -/
inductive Raises : Instr → Cause → Prop
  | startFail : Raises .start .startFail
  | nameTooLong {name : List Byte} (long : 16 < name.length) : Raises (.setuser name) .badLen
  | cfgRunning {name : List Byte} : Raises (.setuser name) .cfgRunning
  | messageTooLong {msg : List Byte} (long : 64 < msg.length) : Raises (.send msg) .badLen
  | sendStopped {msg : List Byte} : Raises (.send msg) .sendStopped
  | sendBusy {msg : List Byte} : Raises (.send msg) .sendBusy

/-- What a command does to the state. -/
inductive CommandEffect (s : State) : Instr → State → Prop
  | unchanged {i : Instr} : CommandEffect s i s
  | raised {i : Instr} {c : Cause} (raises : Raises i c) : CommandEffect s i (s.raise c)
  | started (adcOk : s.adcOk = true) (dacOk : s.dacOk = true) : CommandEffect s .start
      { s with buf := [], burst := 0, matched := false, parseOk := false, rxSeq := .capture, run := true }
  | stopped : CommandEffect s .stop
      { s with
        run := false, txSeq := .idle
        txBusy := if s.txSeq = .idle then s.txBusy else false
        rxSeq := if s.rxSeq = .capture then .off else s.rxSeq
        burst := if s.rxSeq = .capture then 0 else s.burst }
  | named {name : List Byte} (fits : name.length ≤ 16) : CommandEffect s (.setuser name) (s.setUser name)
  | accepted {msg : List Byte} (fits : msg.length ≤ 64) (running : s.run = true) (free : s.txBusy = false) :
      CommandEffect s (.send msg) { s with txBusy := true, txSeq := .frame, txMsg := msg }
  | cleared (mask : Byte) : CommandEffect s (.clrerr mask) (s.clearErr mask)

/-- R252. -/
theorem execStart_effect (s : State) : ∃ t, execStart s = .next t ∧ CommandEffect s .start t := by
  unfold execStart
  split_ifs with hr hd
  · exact ⟨_, rfl, .unchanged⟩
  · obtain ⟨ha, hd⟩ := Bool.and_eq_true_iff.mp hd
    exact ⟨_, rfl, .started ha hd⟩
  · exact ⟨_, rfl, .raised .startFail⟩

/-- R253: a `STOP` while Running leaves `TX_IDLE` and, from `RX_CAPTURE`, `RX_OFF`. -/
theorem execStop_running (hr : s.run = true) : execStop s = .next { s with
    run := false, txSeq := .idle
    txBusy := if s.txSeq = .idle then s.txBusy else false
    rxSeq := if s.rxSeq = .capture then .off else s.rxSeq
    burst := if s.rxSeq = .capture then 0 else s.burst } := by
  rw [execStop, if_pos hr]
  by_cases hq : s.txSeq = .idle <;> by_cases hc : s.rxSeq = .capture <;> simp [leaveCapture, cutFrame, hq, hc]

theorem execStop_effect (s : State) : ∃ t, execStop s = .next t ∧ CommandEffect s .stop t := by
  cases hr : s.run with
  | false => exact ⟨s, by simp [execStop, hr], .unchanged⟩
  | true => exact ⟨_, execStop_running hr, .stopped⟩

/-- R254, R286. -/
theorem execSetuser_effect (name : List Byte) (s : State) :
    ∃ t, execSetuser name s = .next t ∧ CommandEffect s (.setuser name) t := by
  unfold execSetuser
  split_ifs with hl hr
  · exact ⟨_, rfl, .raised (.nameTooLong hl)⟩
  · exact ⟨_, rfl, .raised .cfgRunning⟩
  · exact ⟨_, rfl, .named (by simpa using hl)⟩

/-- R255, R286. -/
theorem execSend_effect (msg : List Byte) (s : State) :
    ∃ t, execSend msg s = .next t ∧ CommandEffect s (.send msg) t := by
  unfold execSend
  split_ifs with hl hr hb
  · exact ⟨_, rfl, .raised (.messageTooLong hl)⟩
  · exact ⟨_, rfl, .raised .sendStopped⟩
  · exact ⟨_, rfl, .raised .sendBusy⟩
  · exact ⟨_, rfl, .accepted (by simpa using hl) (by simpa using hr) (by simpa using hb)⟩

/-- Every command completes with its effect. -/
theorem exec_command {i : Instr} (hi : LegalCommand i) (s : State) : ∃ t, exec i s = .next t ∧ CommandEffect s i t := by
  cases hi with
  | nop => exact ⟨s, rfl, .unchanged⟩
  | start => exact execStart_effect s
  | stop => exact execStop_effect s
  | setuser _ => exact execSetuser_effect _ s
  | send _ => exact execSend_effect _ s
  | clrerr mask => exact ⟨_, rfl, .cleared mask⟩

/-- The state a completed operation ends in is the one its effect speaks of. -/
theorem effect_of_exec {i : Instr} {o : Outcome State Fault Refusal} (he : ∃ u, o = .next u ∧ CommandEffect s i u)
    (h : o = .next t) : CommandEffect s i t := by
  obtain ⟨u, rfl, hu⟩ := he
  cases h
  exact hu

/-! ### The receive operations (R12, R76) -/

/-- The operations of the receive sequencer. -/
def receiveOps : List Instr :=
  [.rxAppend, .rxGoertzel, .rxSlice, .rxScan, .rxUnpack, .rxParse, .rxFilter, .rxDeliver, .rxAdvance, .rxTrim]

/-- R23: the receive sequencer's codes select its operations only. -/
theorem mem_receiveOps_of_decode {c : BitVec 4} {i : Instr} (h : decode (.rxseq c) = .ok i) : i ∈ receiveOps := by
  simp only [decode, decodeRx] at h
  split at h <;> cases h <;> simp [receiveOps]

/-- What an attempt may write outside `RX_DELIVER`: `t` is `s` in every other field. -/
def AttemptFrame (s t : State) : Prop :=
  t = { s with
    rxSeq := t.rxSeq, matched := t.matched, midx := t.midx, parseOk := t.parseOk, q1 := t.q1, q2 := t.q2, en := t.en,
    dsym := t.dsym, gn := t.gn, cidx := t.cidx, syms := t.syms, scnt := t.scnt, pbuf := t.pbuf, pcnt := t.pcnt,
    cd := t.cd, buf := t.buf, burst := t.burst, adcData := t.adcData, adcLast := t.adcLast }

/-- What the receive operations may write: `t` is `s` in every other field. -/
def ReceiveFrame (s t : State) : Prop :=
  t = { s with
    rxSeq := t.rxSeq, matched := t.matched, midx := t.midx, parseOk := t.parseOk, evtValid := t.evtValid,
    evi := t.evi, q1 := t.q1, q2 := t.q2, en := t.en, dsym := t.dsym, gn := t.gn, cidx := t.cidx,
    syms := t.syms, scnt := t.scnt, pbuf := t.pbuf, pcnt := t.pcnt, cd := t.cd, ev := t.ev, buf := t.buf,
    burst := t.burst, adcData := t.adcData, adcLast := t.adcLast }

theorem AttemptFrame.receive (h : AttemptFrame s t) : ReceiveFrame s t := by
  rw [ReceiveFrame, h]

theorem execRxAppend_frame (h : execRxAppend s = .next t) : AttemptFrame s t := by
  unfold execRxAppend afterAppend at h
  split at h
  · split at h <;> cases h <;> rfl
  · split_ifs at h <;> cases h <;> rfl

theorem execRxGoertzel_frame (h : execRxGoertzel s = .next t) : AttemptFrame s t := by
  unfold execRxGoertzel at h
  split at h <;> cases h
  rfl

theorem execRxSlice_frame (h : execRxSlice s = .next t) : AttemptFrame s t := by
  simp only [execRxSlice] at h
  split_ifs at h <;> cases h <;> rfl

theorem execRxScan_frame (h : execRxScan s = .next t) : AttemptFrame s t := by
  unfold execRxScan at h
  split at h
  · cases h
  · split at h <;> cases h <;> rfl

theorem execRxUnpack_frame (h : execRxUnpack s = .next t) : AttemptFrame s t := by
  simp only [execRxUnpack] at h
  split at h
  · cases h
  · split_ifs at h
    cases h
    rfl

theorem execRxParse_frame (h : execRxParse s = .next t) : AttemptFrame s t := by
  unfold execRxParse at h
  split at h
  · cases h
  · split at h <;> cases h <;> rfl

theorem execRxFilter_frame (h : execRxFilter s = .next t) : AttemptFrame s t := by
  unfold execRxFilter at h
  split at h
  · cases h
  · split_ifs at h <;> cases h <;> rfl

theorem execRxTrim_frame (h : execRxTrim s = .next t) : AttemptFrame s t := by
  unfold execRxTrim at h
  rw [trimmed_frame] at h
  split_ifs at h <;> cases h <;> rfl

/-- R238: `RX_DELIVER` always completes, in one of three ways. -/
theorem execRxDeliver_cases (s : State) : ∃ t, execRxDeliver s = .next t ∧
    ((s.evtValid = false ∧
      t = { s with ev := s.ev.store s.cd.sender s.cd.message, evtValid := true, evi := 0, rxSeq := .advance }) ∨
     (s.evtValid = true ∧ s.run = false ∧ t = s.goRx .advance) ∨
     (s.evtValid = true ∧ s.run = true ∧ t = s)) := by
  unfold execRxDeliver
  cases s.evtValid <;> cases s.run <;> exact ⟨_, rfl, by simp⟩

/-- R76, R238: a receive operation stays within the attempt, but for the event that `RX_DELIVER` makes where none is
pending. -/
theorem exec_receive_cases {i : Instr} (hi : i ∈ receiveOps) (h : exec i s = .next t) :
    AttemptFrame s t ∨ (s.evtValid = false ∧
      t = { s with ev := s.ev.store s.cd.sender s.cd.message, evtValid := true, evi := 0, rxSeq := .advance }) := by
  simp only [receiveOps, List.mem_cons, List.not_mem_nil, or_false] at hi
  obtain rfl | rfl | rfl | rfl | rfl | rfl | rfl | rfl | rfl | rfl := hi
  · exact .inl (execRxAppend_frame h)
  · exact .inl (execRxGoertzel_frame h)
  · exact .inl (execRxSlice_frame h)
  · exact .inl (execRxScan_frame h)
  · exact .inl (execRxUnpack_frame h)
  · exact .inl (execRxParse_frame h)
  · exact .inl (execRxFilter_frame h)
  · obtain ⟨u, hu, hc⟩ := execRxDeliver_cases s
    obtain rfl : u = t := by simpa [exec, hu] using h
    obtain ⟨hv, rfl⟩ | ⟨_, _, rfl⟩ | ⟨_, _, rfl⟩ := hc
    · exact .inr ⟨hv, rfl⟩
    · exact .inl rfl
    · exact .inl rfl
  · cases h
    exact .inl rfl
  · exact .inl (execRxTrim_frame h)

/-- R76: a receive operation writes the receive side only. -/
theorem exec_receive_frame {i : Instr} (hi : i ∈ receiveOps) (h : exec i s = .next t) : ReceiveFrame s t := by
  obtain hf | ⟨_, rfl⟩ := exec_receive_cases hi h
  · exact hf.receive
  · rfl

/-- R37: no receive operation touches a pending event. -/
theorem exec_receive_pending {i : Instr} (hi : i ∈ receiveOps) (h : exec i s = .next t) (hv : s.evtValid = true) :
    t.ev = s.ev ∧ t.evtValid = true := by
  obtain hf | ⟨hn, _⟩ := exec_receive_cases hi h
  · exact ⟨by rw [hf], by rw [hf]; exact hv⟩
  · simp [hv] at hn

/-! ### The transmit operations and the tone reads (R140, R131) -/

/-- What the transmit operations and the tone reads may write: `t` is `s` in every other field. -/
def TransmitFrame (s t : State) : Prop :=
  t = { s with
    txSeq := t.txSeq, txBusy := t.txBusy, txPay := t.txPay, txLen := t.txLen, txNSym := t.txNSym,
    txSymI := t.txSymI, txN := t.txN, dacOut := t.dacOut, toneOut := t.toneOut }

/-- R141: what `TX_FRAME` writes. -/
theorem execTxFrame_frame (h : execTxFrame s = .next t) :
    t = { s with txPay := t.txPay, txLen := t.txLen, txSeq := .pack } := by
  simp only [execTxFrame] at h
  split at h
  · cases h
  · split_ifs at h
    cases h
    rfl

/-- R143: what `TX_PACK` writes. -/
theorem execTxPack_frame (h : execTxPack s = .next t) :
    t = { s with txNSym := t.txNSym, txSymI := 0, txN := 0, txSeq := .play } := by
  unfold execTxPack at h
  split at h <;> cases h
  rfl

/-- R146: where the counters and flags go once a sample has left. -/
theorem afterSample_cases (s : State) :
    (s.dacLast = true ∧ afterSample s = { s with txBusy := false, txSeq := .idle }) ∨
    (s.dacLast = false ∧ s.txN.toNat = 175 ∧ afterSample s = { s with txSymI := s.txSymI + 1, txN := 0 }) ∨
    (s.dacLast = false ∧ s.txN.toNat ≠ 175 ∧ afterSample s = { s with txN := s.txN + 1 }) := by
  unfold afterSample
  split_ifs with hl hn
  · exact .inl ⟨hl, rfl⟩
  · exact .inr (.inl ⟨by simpa using hl, hn, rfl⟩)
  · exact .inr (.inr ⟨by simpa using hl, hn, rfl⟩)

/-- R146, R148: a pass of `TX_PLAY` that completes cuts the frame, waits, or hands over one sample. -/
theorem execTxPlay_cases (h : execTxPlay s = .next t) :
    (s.run = false ∧ t = cutFrame s) ∨
    (s.run = true ∧ s.dacReady = false ∧ t = s) ∨
    (s.run = true ∧ s.dacReady = true ∧ ∃ v, t = afterSample (s.dacPush v s.dacLast)) := by
  unfold execTxPlay at h
  split_ifs at h with hr hd
  · cases h
    exact .inl ⟨by simpa using hr, rfl⟩
  · cases h
    exact .inr (.inl ⟨by simpa using hr, by simpa using hd, rfl⟩)
  · split at h
    · cases h
    · split at h <;> cases h
      exact .inr (.inr ⟨by simpa using hr, by simpa using hd, _, rfl⟩)

theorem execTxPlay_frame (h : execTxPlay s = .next t) : TransmitFrame s t := by
  obtain ⟨_, rfl⟩ | ⟨_, _, rfl⟩ | ⟨_, _, v, rfl⟩ := execTxPlay_cases h
  · rfl
  · rfl
  · obtain ⟨_, e⟩ | ⟨_, _, e⟩ | ⟨_, _, e⟩ := afterSample_cases (s.dacPush v s.dacLast) <;> rw [e] <;> rfl

/-- R131: a tone read writes its result only. -/
theorem toneRead_frame {y : Symbol} (h : toneRead y s = .next t) : t = { s with toneOut := t.toneOut } := by
  unfold toneRead at h
  split at h <;> cases h
  rfl

/-- The tone reads. -/
def toneOps : List Instr := [.tone0, .tone1, .tone2, .tone3, .tone4, .tone5, .tone6, .tone7]

theorem decodeSym_mem_toneOps (y : Symbol) : decodeSym y ∈ toneOps := by
  unfold decodeSym
  split <;> simp [toneOps]

theorem exec_tone {i : Instr} (hi : i ∈ toneOps) (s : State) : ∃ y, exec i s = toneRead y s := by
  simp only [toneOps, List.mem_cons, List.not_mem_nil, or_false] at hi
  obtain rfl | rfl | rfl | rfl | rfl | rfl | rfl | rfl := hi <;> exact ⟨_, rfl⟩

theorem exec_tone_frame {i : Instr} (hi : i ∈ toneOps) (h : exec i s = .next t) :
    t = { s with toneOut := t.toneOut } := by
  obtain ⟨y, e⟩ := exec_tone hi s
  exact toneRead_frame (e ▸ h)

end Sys2Proof.Machine
end

section
/-! PROOF. What a step can do: which operation a move leads to and at which state, or what it changes when it runs none
(R14, R101, R239, R258, R320). -/
namespace Sys2Proof.Machine

variable {s t : State}

/-- R320: a step in reset. -/
theorem step_reset (hr : s.resets s.nextMove = true) :
    step s = .next (s.moveTaken.rstEdge.envMove s.nextMove) := by
  have h : s.moveTaken.resets s.nextMove = true := by rw [moveTaken_frame]; exact hr
  rw [step, fetch, fetchMove_reset h]
  rfl

/-- R14, R320: out of reset a step takes the next move at the state but for the schedule. -/
theorem fetch_active (hr : s.resets s.nextMove = false) :
    ∃ ms n, fetch s = activeMove s.nextMove { s with moves := ms, tick := n } := by
  have h : s.moveTaken.resets s.nextMove = false := by rw [moveTaken_frame]; exact hr
  refine ⟨s.moveTaken.moves, s.moveTaken.tick, ?_⟩
  rw [fetch, fetchMove_active h, ← moveTaken_frame]

/-- R15: a command byte that is taken finds no frame being built. -/
theorem txBuilding_of_nextMove_cmd {b : Byte} (hm : s.nextMove = .cmd b) (hc : s.cmdReady = true) :
    s.txBuilding = false := by
  by_contra hb
  have hn : s.buildsFirst = false := by
    by_contra hf
    rw [(nextMove_builds (by simpa using hf)).1] at hm
    cases hm
  have ho : s.offered = .cmd b := by simpa [State.nextMove, hn] using hm
  simp [State.buildsFirst, hc, ho, isCommandByte] at hn
  exact hb hn

/-- R62: when `adc_ready` is 1. -/
theorem adcReady_iff (s : State) : s.adcReady = true ↔ s.rst = false ∧ s.run = true ∧ s.rxSeq = .capture := by
  simp [State.adcReady]

/-- R62, R101: samples that the core takes are on the port when `RX_APPEND` runs. -/
theorem activeMove_adc (ha : s.adcReady = true) (xs : List Sample) (last : Bool) :
    activeMove (.adc xs last) s = .run .rxAppend { s with adcData := xs, adcLast := last } := by
  have hq : s.rxSeq = .capture := ((adcReady_iff s).mp ha).2.2
  rw [activeMove, if_pos ha, hq]
  rfl

/-- R149: a frame that is not being built is being played. -/
theorem play_of_not_building (hq : s.txSeq ≠ .idle) (hb : s.txBuilding = false) : s.txSeq = .play := by
  have hn : ¬ (s.txSeq = .frame ∨ s.txSeq = .pack) := by simp [← txBuilding_iff, hb]
  cases h : s.txSeq <;> simp [h] at hq hn ⊢

/-- What a move out of reset leads to, with the state at which its operation runs. Of the decoder's staging registers
(R39) it says only that no others change. -/
inductive MoveLeads (s : State) : Move → Fetched → Prop
  | stops {m : Move} (f : Fault) : MoveLeads s m (.fault f)
  | waits {m : Move} : MoveLeads s m (.idle s)
  | environment {m : Move} : MoveLeads s m (.idle (s.envMove m))
  | command {b : Byte} {i : Instr} (buf : Vector Byte 64) (ready : s.cmdReady = true) (legal : LegalCommand i) :
      MoveLeads s (.cmd b) (.run i { s with cmdSeq := .op, cmdBuf := buf })
  | staged {b : Byte} (q : CmdSeq) (op len cnt : Byte) (buf : Vector Byte 64) (skip : Bool) :
      MoveLeads s (.cmd b)
        (.idle { s with cmdSeq := q, cmdOp := op, cmdLen := len, cmdCnt := cnt, cmdBuf := buf, cmdSkip := skip })
  | badLen {b : Byte} (seq : s.cmdSeq = .len) (long : DataTooLong s.cmdOp b) :
      MoveLeads s (.cmd b)
        (.idle { s.raise .badLen with cmdLen := b, cmdCnt := 0, cmdSkip := true, cmdSeq := .data })
  | badCmd {b : Byte} (seq : s.cmdSeq = .op) (reserved : 6 ≤ b.toNat) :
      MoveLeads s (.cmd b) (.idle (s.raise .badCmd))
  | receive {i : Instr} (mem : i ∈ receiveOps) : MoveLeads s .rx (.run i s)
  | burst {xs : List Sample} {last : Bool} (ready : s.adcReady = true) :
      MoveLeads s (.adc xs last) (.run .rxAppend { s with adcData := xs, adcLast := last })
  | frame (seq : s.txSeq = .frame) : MoveLeads s .tx (.run .txFrame s)
  | pack (seq : s.txSeq = .pack) : MoveLeads s .tx (.run .txPack s)
  | play (seq : s.txSeq = .play) : MoveLeads s .tx (.run .txPlay s)
  | tone {y : Symbol} {i : Instr} (mem : i ∈ toneOps) : MoveLeads s (.tone y) (.run i s)
  | eventByte (b : Byte) : MoveLeads s .evt (.idle { s.evtPush b false with evi := s.evi + 1 })
  | eventLast (b : Byte) : MoveLeads s .evt (.idle { s.evtPush b true with evtValid := false, evi := 0 })

theorem cmdByteOp_leads (b : Byte) (hc : s.cmdReady = true) (hq : s.cmdSeq = .op) :
    MoveLeads s (.cmd b) (cmdByteOp b s) := by
  obtain ⟨i, hi⟩ | ⟨_, hi⟩ | ⟨hb, hi⟩ := decode_opcode b
  · have e : ({ s with cmdSeq := .op, cmdBuf := s.cmdBuf } : State) = s := by rw [← hq]
    simp only [cmdByteOp, hi]
    exact e ▸ .command s.cmdBuf hc (decode_cmd_legal hi)
  · simp only [cmdByteOp, hi]
    exact .staged ..
  · simp only [cmdByteOp, hi]
    exact .badCmd hq hb

theorem cmdByteLen_leads (b : Byte) (hc : s.cmdReady = true) (hq : s.cmdSeq = .len) :
    MoveLeads s (.cmd b) (cmdByteLen b s) := by
  unfold cmdByteLen
  split
  · next hi => exact .command s.cmdBuf hc (decode_cmd_legal hi)
  · exact .staged ..
  · next hi => exact .badLen hq (dataTooLong_of_badLen hi)
  · exact .stops _

theorem cmdByteData_leads (b : Byte) (hc : s.cmdReady = true) : MoveLeads s (.cmd b) (cmdByteData b s) := by
  unfold cmdByteData
  rw [stageByte_frame]
  split_ifs
  · exact .stops _
  · exact .staged ..
  · exact .staged ..
  · split
    · next hi => exact .command _ hc (decode_cmd_legal hi)
    · exact .stops _
  · exact .stops _

theorem cmdByte_leads (b : Byte) (hc : s.cmdReady = true) : MoveLeads s (.cmd b) (cmdByte b s) := by
  unfold cmdByte
  split
  · next hq => exact cmdByteOp_leads b hc hq
  · next hq => exact cmdByteLen_leads b hc hq
  · exact cmdByteData_leads b hc

theorem evtTake_leads (s : State) : MoveLeads s .evt (evtTake s) := by
  unfold evtTake
  split
  · exact .stops _
  · split_ifs
    · exact .eventLast _
    · exact .eventByte _

/-- What every move out of reset leads to. -/
theorem activeMove_leads (m : Move) (s : State) : MoveLeads s m (activeMove m s) := by
  cases m with
  | cmd b =>
    rw [activeMove]
    split_ifs with hc
    · exact cmdByte_leads b hc
    · exact .waits
  | adc xs last =>
    cases ha : s.adcReady with
    | true => exact activeMove_adc ha xs last ▸ .burst ha
    | false =>
      rw [activeMove, if_neg (by simp [ha])]
      exact .waits
  | rx =>
    rw [activeMove, runCode]
    split
    · next hi => exact .receive (mem_receiveOps_of_decode hi)
    · exact .waits
  | tx =>
    rw [activeMove_tx]
    split
    · exact .waits
    · next hq => exact .frame hq
    · next hq => exact .pack hq
    · next hq => exact .play hq
  | tone y => exact .tone (decodeSym_mem_toneOps y)
  | evt =>
    rw [activeMove]
    split_ifs
    · exact evtTake_leads s
    · exact .waits
  | pins a d => exact .environment
  | dacReady r => exact .environment
  | rst level => exact .environment

/-- What a step can do: reset, or run what its move leads to. -/
theorem step_cases (h : step s = .next t) :
    (s.resets s.nextMove = true ∧ t = s.moveTaken.rstEdge.envMove s.nextMove) ∨
    (s.resets s.nextMove = false ∧ ∃ m f ms n, s.nextMove = m ∧ fetch s = f ∧
      MoveLeads { s with moves := ms, tick := n } m f ∧ runFetched f = .next t) := by
  cases hr : s.resets s.nextMove with
  | true =>
    rw [step_reset hr] at h
    cases h
    exact .inl ⟨rfl, rfl⟩
  | false =>
    obtain ⟨ms, n, hf⟩ := fetch_active hr
    exact .inr ⟨rfl, _, _, ms, n, rfl, rfl, hf ▸ activeMove_leads _ _, h⟩

/-- The transmit side, the message handed over and the DAC history are the same. -/
structure TransmitKept (s t : State) : Prop where
  txSeq : t.txSeq = s.txSeq
  txBusy : t.txBusy = s.txBusy
  txMsg : t.txMsg = s.txMsg
  txPay : t.txPay = s.txPay
  txLen : t.txLen = s.txLen
  txNSym : t.txNSym = s.txNSym
  txSymI : t.txSymI = s.txSymI
  txN : t.txN = s.txN
  dacOut : t.dacOut = s.dacOut

/-- What every step keeps that runs no command and no transmit operation and raises nothing: `RUN`, `ERR`, the username
and the transmit side. -/
structure ControlKept (s t : State) : Prop extends TransmitKept s t where
  run : t.run = s.run
  err : t.err = s.err
  user : t.user = s.user
  ulen : t.ulen = s.ulen

theorem ReceiveFrame.controlKept (h : ReceiveFrame s t) : ControlKept s t := by
  rw [h]
  repeat' constructor

theorem controlKept_of_tone (h : t = { s with toneOut := t.toneOut }) : ControlKept s t := by
  rw [h]
  repeat' constructor

theorem controlKept_envMove (s : State) (m : Move) : ControlKept s (s.envMove m) := by
  rw [envMove_frame]
  repeat' constructor

/-- What a step does to the control registers and the transmit side, with the operation that does it. -/
inductive StepEffect (s t : State) : Prop
  | reset (resets : s.resets s.nextMove = true) (state : t = s.moveTaken.rstEdge.envMove s.nextMove)
  | kept (kept : ControlKept s t)
  | command {b : Byte} {i : Instr} {ms : List Move} {n : Nat} {buf : Vector Byte 64}
      (move : s.nextMove = .cmd b) (ready : s.cmdReady = true) (legal : LegalCommand i)
      (fetched : fetch s = .run i { s with moves := ms, tick := n, cmdSeq := .op, cmdBuf := buf })
      (effect : CommandEffect { s with moves := ms, tick := n, cmdSeq := .op, cmdBuf := buf } i t)
  | badLen {b : Byte} {ms : List Move} {n : Nat} (move : s.nextMove = .cmd b) (seq : s.cmdSeq = .len)
      (long : DataTooLong s.cmdOp b)
      (state : t = { s.raise .badLen with
        moves := ms, tick := n, cmdLen := b, cmdCnt := 0, cmdSkip := true, cmdSeq := .data })
  | badCmd {b : Byte} {ms : List Move} {n : Nat} (move : s.nextMove = .cmd b) (seq : s.cmdSeq = .op)
      (reserved : 6 ≤ b.toNat) (state : t = { s.raise .badCmd with moves := ms, tick := n })
  | frame {ms : List Move} {n : Nat} (seq : s.txSeq = .frame)
      (fetched : fetch s = .run .txFrame { s with moves := ms, tick := n })
      (effect : execTxFrame { s with moves := ms, tick := n } = .next t)
  | pack {ms : List Move} {n : Nat} (seq : s.txSeq = .pack)
      (fetched : fetch s = .run .txPack { s with moves := ms, tick := n })
      (effect : execTxPack { s with moves := ms, tick := n } = .next t)
  | play {ms : List Move} {n : Nat} (out : s.rst = false) (seq : s.txSeq = .play)
      (fetched : fetch s = .run .txPlay { s with moves := ms, tick := n })
      (effect : execTxPlay { s with moves := ms, tick := n } = .next t)

theorem step_effect (h : step s = .next t) : StepEffect s t := by
  obtain ⟨hr, ht⟩ | ⟨hr, m, f, ms, n, hm, hf, hl, h⟩ := step_cases h
  · exact .reset hr ht
  have hrst : s.rst = false := by
    simp only [State.resets, Bool.or_eq_false_iff] at hr
    exact hr.1
  have keep : ControlKept { s with moves := ms, tick := n } t → StepEffect s t := fun k => .kept { k with }
  cases hl with
  | command _ hc hi => exact .command hm hc hi hf (effect_of_exec (exec_command hi _) h)
  | badLen hq hb => cases h; exact .badLen hm hq hb rfl
  | badCmd hq hb => cases h; exact .badCmd hm hq hb rfl
  | frame hq => exact .frame hq hf h
  | pack hq => exact .pack hq hf h
  | play hq => exact .play hrst hq hf h
  | receive hi => exact keep (exec_receive_frame hi h).controlKept
  | burst _ => exact .kept { (execRxAppend_frame h).receive.controlKept with }
  | tone hi => exact keep (controlKept_of_tone (exec_tone_frame hi h))
  | environment => cases h; exact keep (controlKept_envMove _ _)
  | stops _ => cases h
  | waits => cases h; exact .kept (by repeat' constructor)
  | staged => cases h; exact .kept (by repeat' constructor)
  | eventByte _ => cases h; exact .kept (by repeat' constructor)
  | eventLast _ => cases h; exact .kept (by repeat' constructor)

end Sys2Proof.Machine
end

section
/-! PROOF. What every step keeps of `RUN`, of a pending event and of `ERR` (R27, R37, R31). -/
namespace Sys2Proof.Machine

open Sys2Proof.Safety

variable {s t : State}

/-! ### Running (R27, R303) -/

/-- R27: of the commands only `START` and `STOP` write `RUN`. -/
theorem CommandEffect.run_eq {i : Instr} (h : CommandEffect s i t) :
    t.run = s.run ∨
    (i = .start ∧ s.adcOk = true ∧ s.dacOk = true ∧ t.buf = [] ∧ t.rxSeq = .capture ∧ t.run = true) ∨
    (i = .stop ∧ t.run = false) := by
  cases h with
  | started ha hd => exact .inr (.inl ⟨rfl, ha, hd, rfl, rfl, rfl⟩)
  | stopped => exact .inr (.inr ⟨rfl, rfl⟩)
  | unchanged => exact .inl rfl
  | raised _ => exact .inl rfl
  | named _ => exact .inl rfl
  | accepted _ _ _ => exact .inl rfl
  | cleared _ => exact .inl rfl

/-- R27, R303: what a step does to `RUN`. -/
theorem step_run (h : step s = .next t) :
    (s.resets s.nextMove = true ∧ t.run = false) ∨ t.run = s.run ∨
    ((∃ u, fetch s = .run .start u) ∧ s.adcOk = true ∧ s.dacOk = true ∧ t.buf = [] ∧ t.rxSeq = .capture ∧
      t.run = true) ∨
    ((∃ u, fetch s = .run .stop u) ∧ t.run = false) := by
  cases step_effect h with
  | reset hr ht => exact .inl ⟨hr, by rw [ht, envMove_frame]; rfl⟩
  | kept k => exact .inr (.inl k.run)
  | command _ _ _ hf he =>
    obtain e | ⟨rfl, e⟩ | ⟨rfl, e⟩ := he.run_eq
    · exact .inr (.inl e)
    · exact .inr (.inr (.inl ⟨⟨_, hf⟩, e⟩))
    · exact .inr (.inr (.inr ⟨⟨_, hf⟩, e⟩))
  | badLen _ _ _ ht => exact .inr (.inl (by rw [ht]; rfl))
  | badCmd _ _ _ ht => exact .inr (.inl (by rw [ht]; rfl))
  | frame _ _ he => exact .inr (.inl (by rw [execTxFrame_frame he]))
  | pack _ _ he => exact .inr (.inl (by rw [execTxPack_frame he]))
  | play _ _ _ he => exact .inr (.inl (by rw [execTxPlay_frame he]))

/-! ### The pending event (R37, R239) -/

/-- R79: no command touches the event record. -/
theorem CommandEffect.event_eq {i : Instr} (h : CommandEffect s i t) : t.ev = s.ev ∧ t.evtValid = s.evtValid := by
  cases h <;> exact ⟨rfl, rfl⟩

/-- R37, R239: out of reset a step keeps a pending record, and only a transfer on the event port ends it. -/
theorem step_event (hv : s.evtValid = true) (hr : s.resets s.nextMove = false) (h : step s = .next t) :
    t.ev = s.ev ∧ (t.evtValid = true ∨ s.nextMove = .evt) := by
  obtain ⟨hr', _⟩ | ⟨_, m, f, ms, n, hm, hf, hl, h⟩ := step_cases h
  · simp [hr] at hr'
  have keep (he : t.ev = s.ev ∧ t.evtValid = true) : t.ev = s.ev ∧ (t.evtValid = true ∨ s.nextMove = .evt) :=
    ⟨he.1, .inl he.2⟩
  cases hl with
  | receive hi =>
    obtain ⟨he, hv'⟩ := exec_receive_pending hi h hv
    exact keep ⟨he, hv'⟩
  | burst _ => exact keep (by rw [execRxAppend_frame h]; exact ⟨rfl, hv⟩)
  | command _ _ hi =>
    obtain ⟨he, hv'⟩ := (effect_of_exec (exec_command hi _) h).event_eq
    exact keep ⟨he, hv'.trans hv⟩
  | eventLast _ => cases h; exact ⟨rfl, .inr hm⟩
  | frame _ => exact keep (by rw [execTxFrame_frame h]; exact ⟨rfl, hv⟩)
  | pack _ => exact keep (by rw [execTxPack_frame h]; exact ⟨rfl, hv⟩)
  | play _ => exact keep (by rw [execTxPlay_frame h]; exact ⟨rfl, hv⟩)
  | tone hi => exact keep (by rw [exec_tone_frame hi h]; exact ⟨rfl, hv⟩)
  | environment => cases h; exact keep (by rw [envMove_frame]; exact ⟨rfl, hv⟩)
  | stops _ => cases h
  | waits => cases h; exact keep ⟨rfl, hv⟩
  | staged => cases h; exact keep ⟨rfl, hv⟩
  | badLen _ _ => cases h; exact keep ⟨rfl, hv⟩
  | badCmd _ _ => cases h; exact keep ⟨rfl, hv⟩
  | eventByte _ => cases h; exact keep ⟨rfl, hv⟩

/-! ### Errors (R31, R281, R282, R286) -/

/-- Of the commands only `CLRERR` and one that raises write `ERR`. -/
theorem CommandEffect.err_eq {i : Instr} (h : CommandEffect s i t) :
    t.err = s.err ∨ (∃ mask, i = .clrerr mask ∧ t = s.clearErr mask) ∨ ∃ c, Raises i c ∧ t = s.raise c := by
  cases h with
  | raised hc => exact .inr (.inr ⟨_, hc, rfl⟩)
  | cleared mask => exact .inr (.inl ⟨mask, rfl, rfl⟩)
  | unchanged => exact .inl rfl
  | started _ _ => exact .inl rfl
  | stopped => exact .inl rfl
  | named _ => exact .inl rfl
  | accepted _ _ _ => exact .inl rfl

/-- R286: an operation that completes leaves `ERR` alone, clears, or raises one of its causes and does nothing else. -/
theorem exec_err {i : Instr} (h : exec i s = .next t) :
    t.err = s.err ∨ (∃ mask, i = .clrerr mask ∧ t = s.clearErr mask) ∨ ∃ c, Raises i c ∧ t = s.raise c := by
  cases i with
  | nop => cases h; exact .inl rfl
  | start => exact (effect_of_exec (execStart_effect s) h).err_eq
  | stop => exact (effect_of_exec (execStop_effect s) h).err_eq
  | setuser name => exact (effect_of_exec (execSetuser_effect name s) h).err_eq
  | send msg => exact (effect_of_exec (execSend_effect msg s) h).err_eq
  | clrerr mask => cases h; exact .inr (.inl ⟨mask, rfl, rfl⟩)
  | txFrame => exact .inl (by rw [execTxFrame_frame h])
  | txPack => exact .inl (by rw [execTxPack_frame h])
  | txPlay => exact .inl (by rw [execTxPlay_frame h])
  | rxAppend | rxGoertzel | rxSlice | rxScan | rxUnpack | rxParse | rxFilter | rxDeliver | rxAdvance | rxTrim =>
    exact .inl (by rw [exec_receive_frame (by simp [receiveOps]) h])
  | tone0 | tone1 | tone2 | tone3 | tone4 | tone5 | tone6 | tone7 =>
    exact .inl (by rw [exec_tone_frame (by simp [toneOps]) h])

/-- Which step raises a cause (R281): a command that runs, or the decoder at the byte `b`. -/
def RaisedBy (s : State) (b : Byte) : Cause → Prop
  | .startFail => ∃ u, fetch s = .run .start u
  | .sendStopped => ∃ msg u, fetch s = .run (.send msg) u
  | .sendBusy => ∃ msg u, fetch s = .run (.send msg) u
  | .cfgRunning => ∃ name u, fetch s = .run (.setuser name) u
  | .badLen => s.cmdSeq = .len ∧ DataTooLong s.cmdOp b
  | .badCmd => s.cmdSeq = .op ∧ 6 ≤ b.toNat

/-- A legal command raises what its fetch stands for; `BAD_LEN` is left to the decoder (log 22). -/
theorem raisedBy_of_legal {i : Instr} {c : Cause} {u : State} (hi : LegalCommand i) (hc : Raises i c)
    (hf : fetch s = .run i u) (b : Byte) : RaisedBy s b c := by
  cases hc with
  | startFail => exact ⟨u, hf⟩
  | cfgRunning => exact ⟨_, u, hf⟩
  | sendStopped => exact ⟨_, u, hf⟩
  | sendBusy => exact ⟨_, u, hf⟩
  | nameTooLong hl => cases hi; omega
  | messageTooLong hl => cases hi; omega

/-- R31: out of reset a step leaves `ERR` alone, clears by a mask, or raises one cause at a command byte. -/
theorem step_err (hr : s.resets s.nextMove = false) (h : step s = .next t) :
    t.err = s.err ∨
    (∃ mask u, fetch s = .run (.clrerr mask) u ∧ t.err = (s.clearErr mask).err) ∨
    ∃ b c, s.nextMove = .cmd b ∧ t.err = s.err ||| c.mask ∧ RaisedBy s b c := by
  cases step_effect h with
  | reset hr' _ => simp [hr] at hr'
  | kept k => exact .inl k.err
  | @command b i _ _ _ hm _ hi hf he =>
    obtain e | ⟨mask, rfl, rfl⟩ | ⟨c, hc, rfl⟩ := he.err_eq
    · exact .inl e
    · exact .inr (.inl ⟨mask, _, hf, rfl⟩)
    · exact .inr (.inr ⟨b, c, hm, rfl, raisedBy_of_legal hi hc hf b⟩)
  | badLen hm hq hb ht => exact .inr (.inr ⟨_, .badLen, hm, by rw [ht]; rfl, hq, hb⟩)
  | badCmd hm hq hb ht => exact .inr (.inr ⟨_, .badCmd, hm, by rw [ht]; rfl, hq, hb⟩)
  | frame _ _ he => exact .inl (by rw [execTxFrame_frame he])
  | pack _ _ he => exact .inl (by rw [execTxPack_frame he])
  | play _ _ _ he => exact .inl (by rw [execTxPlay_frame he])

end Sys2Proof.Machine

open Sys2Proof Sys2Proof.Machine

/-- Settles O55: `step_run` says that nothing else writes `RUN`. -/
theorem runChangesOnlyByStartStop : Obligations.RunChangesOnlyByStartStop := by
  intro s t h
  refine ⟨fun h0 h1 => ?_, fun h1 h0 => ?_⟩
  · obtain ⟨_, e⟩ | e | ⟨hf, ha, hd, hb, hq, _⟩ | ⟨_, e⟩ := step_run h
    · simp [h1] at e
    · simp [h0, h1] at e
    · exact ⟨hf, ha, hd, hb, hq⟩
    · simp [h1] at e
  · obtain ⟨hr, _⟩ | e | ⟨_, _, _, _, _, e⟩ | ⟨hf, _⟩ := step_run h
    · exact .inl hr
    · simp [h0, h1] at e
    · simp [h0] at e
    · exact .inr hf

/-- Settles O40: `step_event`. -/
theorem pendingEventIsFrozen : Obligations.PendingEventIsFrozen := by
  intro s t hv h hr
  obtain ⟨he, hv' | hm⟩ := step_event hv hr h
  · exact ⟨he, fun hn => by simp [hv'] at hn⟩
  · exact ⟨he, fun _ => hm⟩

/-- Settles O19: `exec_err` for the operations, `step_err` for the steps. -/
theorem operationRaisesAtMostOneError : Obligations.OperationRaisesAtMostOneError := by
  refine ⟨fun i s t h hne => ?_, fun s t h hr => ⟨fun j hj h1 h0 => ?_, fun hne => ?_⟩⟩
  · obtain e | ⟨mask, rfl, _⟩ | ⟨c, hc, rfl⟩ := exec_err h
    · exact absurd e hne
    · exact .inl ⟨mask, rfl⟩
    · exact .inr ⟨c, rfl, by cases hc <;> simp⟩
  · obtain e | ⟨mask, u, hf, e⟩ | ⟨b, c, _, e, _⟩ := step_err hr h
    · simp [e, h1] at h0
    · refine ⟨mask, u, hf, ?_⟩
      simpa [e, h1, hj] using h0
    · simp [e, h1] at h0
  · obtain e | ⟨mask, u, hf, _⟩ | ⟨b, c, hm, e, hc⟩ := step_err hr h
    · exact absurd e hne
    · exact .inl ⟨mask, u, hf⟩
    · exact .inr ⟨b, c, hm, e, by cases c <;> exact hc⟩
end

section
/-! PROOF. The invariants of R48 and R49: they hold after reset, every operation keeps them and completes where its
sequencer runs it, and so does every step. -/
namespace Sys2Proof.Safety

open Sys2Proof.Machine Host

variable {s t : State}

/-- An outcome that is a next state with the invariants. -/
def Safe (o : Outcome State Fault Refusal) : Prop := ∃ t, o = .next t ∧ CoreInv t

/-- The state a safe outcome ends in has the invariants. -/
theorem Safe.inv {o : Outcome State Fault Refusal} (h : Safe o) (ht : o = .next t) : CoreInv t := by
  obtain ⟨u, rfl, hu⟩ := h
  cases ht
  exact hu

/-- Out of reset the clause on reset says nothing. -/
theorem held_of_running {p : Prop} (hr : s.rst = false) : s.rst = true → p := by simp [hr]

/-! ### Consequences of the invariants -/

/-- No burst is open outside `RX_CAPTURE` (R44). -/
theorem CoreInv.burst_zero (h : CoreInv s) (hq : s.rxSeq ≠ .capture) : s.burst = 0 := by
  by_contra hb
  exact hq (h.burstOpen hb)

/-- R49: the chunk being filtered or sliced is in the buffer, and among the first 50. -/
theorem CoreInv.chunk_bounds (h : CoreInv s) (hq : s.rxSeq = .goertzel ∨ s.rxSeq = .slice) :
    s.cidx.toNat < 50 ∧ 176 * s.cidx.toNat + 176 ≤ s.blen := by
  have := (h.chunk hq).1
  simp only [numChunks, Config.winChunks] at this
  omega

/-! ### Reset (R45, R320) -/

/-- The reset state has the invariants, whatever the environment holds. -/
theorem coreInv_rstEdge (h : 1 ≤ s.rdMax) : CoreInv s.rstEdge where
  ulen := by simp [State.reset]
  scnt := by simp [State.reset]
  pcnt := by simp [State.reset]
  cdLen := by simp [State.reset, Record.zero]
  evLen := by simp [State.reset, Record.zero]
  rdMax := h
  bufCap := Nat.zero_le _
  bufCapture := nofun
  burst := Nat.zero_le _
  burstOpen := fun hb => absurd rfl hb
  adcData := rfl
  chunk := by simp [State.reset]
  matched := by simp [State.reset]
  matchList := nofun
  parsed := by simp [State.reset]
  running := nofun
  capturing := nofun
  busyRun := nofun
  busy := by simp [State.reset]
  txMsg := nofun
  txLen := by simp [State.reset]
  play := nofun
  txN := by simp [State.reset]
  evi := by simp [State.reset, Record.zero]
  eviIdle := fun _ => rfl
  held := fun _ => rfl
  cmdLen := nofun
  cmdData := nofun
  cmdFits := nofun

theorem coreInv_reset : CoreInv State.reset := coreInv_rstEdge (s := State.reset) (Nat.le_add_left 1 _)

/-- R320: while reset holds, the pins of the environment may move. -/
theorem coreInv_reset_step (h : CoreInv s) (m : Move) : CoreInv (s.rstEdge.envMove m) := by
  have hr := coreInv_rstEdge h.rdMax
  cases m <;> exact { hr with held := fun _ => rfl }

/-! ### The commands (R251 to R256) -/

/-- Every command keeps the invariants. -/
theorem commandEffect_keeps {i : Instr} (h : CoreInv s) (hr : s.rst = false) (he : CommandEffect s i t) :
    CoreInv t := by
  cases he with
  | unchanged => exact h
  | raised _ => exact { h with held := held_of_running hr }
  | cleared _ => exact { h with held := held_of_running hr }
  | started _ _ => exact { h with
      bufCap := Nat.zero_le _
      bufCapture := fun _ => Nat.zero_le _
      burst := Nat.zero_le _
      burstOpen := fun _ => rfl
      chunk := by simp
      matched := by simp
      matchList := nofun
      parsed := by simp
      running := fun _ => nofun
      capturing := fun _ => rfl
      busyRun := fun _ => rfl
      held := held_of_running hr }
  | stopped =>
    have hb : (if s.txSeq = .idle then s.txBusy else false) = false := by
      split_ifs with hi
      · simpa [hi] using h.busy
      · rfl
    rw [hb]
    by_cases hc : s.rxSeq = .capture
    · rw [if_pos hc, if_pos hc]
      exact { h with
        bufCapture := nofun
        burst := Nat.zero_le _
        burstOpen := fun hz => absurd rfl hz
        chunk := by simp
        matched := by simp
        matchList := fun hm _ _ _ => h.matchList hm (by simp [hc]) (by simp [hc]) (by simp [hc])
        parsed := by simp
        running := nofun
        capturing := nofun
        busyRun := nofun
        busy := by simp
        txMsg := nofun
        txLen := by simp
        play := nofun
        held := held_of_running hr }
    · rw [if_neg hc, if_neg hc]
      exact { h with
        running := nofun
        capturing := fun hq => absurd hq hc
        busyRun := nofun
        busy := by simp
        txMsg := nofun
        txLen := by simp
        play := nofun
        held := held_of_running hr }
  | named hl => exact { h with
      ulen := by simpa [State.setUser] using by omega
      held := held_of_running hr }
  | accepted hl hrun _ => exact { h with
      busyRun := fun _ => hrun
      busy := by simp
      txMsg := fun _ => hl
      txLen := by simp
      play := nofun
      held := held_of_running hr }

theorem exec_command_safe {i : Instr} (hi : LegalCommand i) (h : CoreInv s) (hr : s.rst = false) :
    Safe (exec i s) := by
  obtain ⟨t, ht, he⟩ := exec_command hi s
  exact ⟨t, ht, commandEffect_keeps h hr he⟩

/-! ### The receive operations -/

/-- R182: a chunk of the attempt is in the buffer. -/
theorem execRxGoertzel_safe (h : CoreInv s) (hr : s.rst = false) (hq : s.rxSeq = .goertzel) :
    Safe (execRxGoertzel s) := by
  rw [execRxGoertzel, State.chunk_eq_some (h.chunk_bounds (.inl hq)).2]
  exact ⟨_, rfl, { h with
    bufCapture := nofun
    burstOpen := fun hb => absurd (h.burst_zero (by simp [hq])) hb
    chunk := fun _ => h.chunk (.inl hq)
    matched := by simp
    matchList := fun _ _ hn => absurd rfl hn
    parsed := by simp
    running := fun _ => nofun
    capturing := nofun
    held := held_of_running hr }⟩

/-- R186: a chunk's symbol lengthens the list by one; the list never passes 50 (R201). -/
theorem execRxSlice_safe (h : CoreInv s) (hr : s.rst = false) (hq : s.rxSeq = .slice) : Safe (execRxSlice s) := by
  have hc : s.cidx.toNat < 50 := (h.chunk_bounds (.inr hq)).1
  have hn : (s.cidx + 1).toNat = s.cidx.toNat + 1 := by bv_omega
  have hb : s.burst = 0 := h.burst_zero (by simp [hq])
  simp only [execRxSlice, if_pos hc]
  split_ifs with hm
  · exact ⟨_, rfl, { h with
      scnt := by dsimp only; omega
      bufCapture := nofun
      burstOpen := fun hz => absurd hb hz
      chunk := fun _ => ⟨hn ▸ hm, rfl⟩
      matched := by simp
      matchList := fun _ hg => absurd rfl hg
      parsed := by simp
      running := fun _ => nofun
      capturing := nofun
      held := held_of_running hr }⟩
  · exact ⟨_, rfl, { h with
      scnt := by dsimp only [State.goRx]; omega
      bufCapture := nofun
      burstOpen := fun hz => absurd hb hz
      chunk := by simp
      matched := by simp
      matchList := fun _ _ _ hs => absurd rfl hs
      parsed := by simp
      running := fun _ => nofun
      capturing := nofun
      held := held_of_running hr }⟩

/-- After the scan has matched, the sequencer may go on to any later state of the attempt; `PARSE_OK` must be 1 where
the candidate is read. -/
theorem CoreInv.goMatched (h : CoreInv s) (hr : s.rst = false) (hb : s.burst = 0)
    (hm : s.matched = true ∧ s.midx.toNat + 4 ≤ s.scnt.toNat) (q : RxSeq)
    (hq : q ≠ .off ∧ q ≠ .capture ∧ q ≠ .goertzel ∧ q ≠ .slice := by decide)
    (hp : q = .filter ∨ q = .deliver → s.parseOk = true := by simp) : CoreInv (s.goRx q) :=
  { h with
    bufCapture := fun hc => absurd hc hq.2.1
    burstOpen := fun hz => absurd hb hz
    chunk := fun hc => absurd hc (by simp [hq])
    matched := fun _ => hm
    matchList := fun _ _ _ _ => hm.2
    parsed := hp
    running := fun _ => hq.1
    capturing := fun hc => absurd hc hq.2.1
    held := held_of_running hr }

/-- R203: the symbol list of at most 50 is live, and a match lies inside it. -/
theorem execRxScan_safe (h : CoreInv s) (hr : s.rst = false) (hq : s.rxSeq = .scan) : Safe (execRxScan s) := by
  have hb : s.burst = 0 := h.burst_zero (by simp [hq])
  have hl : s.liveSyms = some (s.syms.toList.take s.scnt.toNat) := live_eq_some h.scnt
  simp only [execRxScan, hl]
  split
  · exact ⟨_, rfl, { h with
      bufCapture := nofun
      burstOpen := fun hz => absurd hb hz
      chunk := by simp
      matched := by simp
      matchList := nofun
      parsed := by simp
      running := fun _ => nofun
      capturing := nofun
      held := held_of_running hr }⟩
  · next i hi =>
    have hs : i + 4 ≤ s.scnt.toNat := by
      have := (findPreamble_some hi).1
      rwa [live_length hl] at this
    have hm : (BitVec.ofNat 6 i).toNat + 4 ≤ s.scnt.toNat := by
      have := Nat.mod_le i (2 ^ 6)
      simp only [BitVec.toNat_ofNat]
      omega
    have hi : CoreInv { s with matched := true, midx := BitVec.ofNat 6 i } := { h with
      matched := by simp [hq]
      matchList := fun _ _ _ hn => absurd hq hn
      held := held_of_running hr }
    exact ⟨_, rfl, hi.goMatched hr hb ⟨rfl, hm⟩ .unpack⟩

/-- R221: the payload window of at most 46 symbols holds at most 17 bytes. -/
theorem execRxUnpack_safe (h : CoreInv s) (hr : s.rst = false) (hq : s.rxSeq = .unpack) : Safe (execRxUnpack s) := by
  have hl : s.liveSyms = some (s.syms.toList.take s.scnt.toNat) := live_eq_some h.scnt
  have hn : (unpack (payWindow (s.syms.toList.take s.scnt.toNat) s.midx.toNat)).length ≤ 17 := by
    have := live_length hl
    have := h.scnt
    rw [unpack_length, payWindow, List.length_drop]
    omega
  simp only [execRxUnpack, hl, if_neg (Nat.not_lt.mpr hn)]
  generalize unpack (payWindow (s.syms.toList.take s.scnt.toNat) s.midx.toNat) = bytes at hn ⊢
  have hp : CoreInv { s with pbuf := overwrite s.pbuf 0 bytes, pcnt := BitVec.ofNat 5 bytes.length } := { h with
    pcnt := by
      rw [BitVec.toNat_ofNat]
      exact (Nat.mod_le _ _).trans hn
    held := held_of_running hr }
  exact ⟨_, rfl, hp.goMatched hr (h.burst_zero (by simp [hq])) (h.matched (.inl hq)) .parse⟩

/-- R223: the live payload of at most 17 bytes splits into a pair that fits the candidate record. -/
theorem execRxParse_safe (h : CoreInv s) (hr : s.rst = false) (hq : s.rxSeq = .parse) : Safe (execRxParse s) := by
  have hb : s.burst = 0 := h.burst_zero (by simp [hq])
  have hm := h.matched (.inr (.inl hq))
  have hl : s.livePbuf = some (s.pbuf.toList.take s.pcnt.toNat) := live_eq_some h.pcnt
  simp only [execRxParse, hl]
  split
  · have hp : CoreInv { s with parseOk := false } :=
      { h with parsed := by simp [hq], held := held_of_running hr }
    exact ⟨_, rfl, hp.goMatched hr hb hm .advance⟩
  · next snd msg hf =>
    have hlen : snd.length + msg.length ≤ 16 := by
      have := parsePayload_frame hf
      have := live_length hl
      have := h.pcnt
      omega
    obtain ⟨es, em, _, _⟩ := s.cd.store_fits snd msg (by omega) (by omega)
    have hp : CoreInv { s with cd := s.cd.store snd msg, parseOk := true } :=
      { h with
        cdLen := by dsimp only; omega
        parsed := fun _ => rfl
        held := held_of_running hr }
    exact ⟨_, rfl, hp.goMatched hr hb hm .filter (hp := fun _ => rfl)⟩

/-- R236: the filter reads the username and goes one of two ways. -/
theorem execRxFilter_safe (h : CoreInv s) (hr : s.rst = false) (hq : s.rxSeq = .filter) : Safe (execRxFilter s) := by
  have hb : s.burst = 0 := h.burst_zero (by simp [hq])
  have hm := h.matched (.inr (.inr (.inl hq)))
  have hl : s.username = some (s.user.toList.take s.ulen.toNat) := live_eq_some h.ulen
  simp only [execRxFilter, hl]
  split_ifs
  · exact ⟨_, rfl, h.goMatched hr hb hm .advance⟩
  · exact ⟨_, rfl, h.goMatched hr hb hm .deliver (hp := fun _ => h.parsed (.inl hq))⟩

/-- R238: the record delivered is as long as the candidate. -/
theorem execRxDeliver_safe (h : CoreInv s) (hr : s.rst = false) (hq : s.rxSeq = .deliver) :
    Safe (execRxDeliver s) := by
  have hb : s.burst = 0 := h.burst_zero (by simp [hq])
  have hm := h.matched (.inr (.inr (.inr (.inl hq))))
  obtain ⟨t, ht, ⟨_, rfl⟩ | ⟨_, _, rfl⟩ | ⟨_, _, rfl⟩⟩ := execRxDeliver_cases s
  · have hs := s.cd.sender_length
    have hg := s.cd.message_length
    have hc := h.cdLen
    obtain ⟨es, em, _, _⟩ := s.ev.store_fits s.cd.sender s.cd.message (by omega) (by omega)
    have hp : CoreInv { s with ev := s.ev.store s.cd.sender s.cd.message, evtValid := true, evi := 0 } :=
      { h with
        evLen := by dsimp only; omega
        evi := show 0 < _ by dsimp only; omega
        eviIdle := nofun
        held := held_of_running hr }
    exact ⟨_, ht, hp.goMatched hr hb hm .advance⟩
  · exact ⟨_, ht, h.goMatched hr hb hm .advance⟩
  · exact ⟨_, ht, h⟩

/-- Dropping samples keeps the buffer in its bounds; no chunk of an attempt is in use. -/
theorem CoreInv.dropOldest (h : CoreInv s) (hr : s.rst = false) (hq : s.rxSeq ≠ .goertzel ∧ s.rxSeq ≠ .slice)
    (k : Nat) : CoreInv (s.dropOldest k) :=
  have hl : (s.dropOldest k).blen ≤ s.blen := by simp
  { h with
    bufCap := hl.trans h.bufCap
    bufCapture := fun hc => hl.trans (h.bufCapture hc)
    chunk := fun hc => absurd hc (by simp [hq])
    held := held_of_running hr }

/-- R207. -/
theorem execRxAdvance_safe (h : CoreInv s) (hr : s.rst = false) (hq : s.rxSeq = .advance) :
    Safe (execRxAdvance s) :=
  have hd := h.dropOldest hr (by simp [hq]) (advanceLen s.midx.toNat s.blen)
  ⟨_, rfl, hd.goMatched hr (h.burst_zero (by simp [hq])) (h.matched (by simp [hq])) .trim⟩

/-- R166: a trimmed buffer is within the bound of `RX_CAPTURE`. -/
theorem execRxTrim_safe (h : CoreInv s) (hr : s.rst = false) (hq : s.rxSeq = .trim) : Safe (execRxTrim s) := by
  have hb : s.burst = 0 := h.burst_zero (by simp [hq])
  have hl : s.matched = true → s.midx.toNat + 4 ≤ s.scnt.toNat := fun hm =>
    h.matchList hm (by simp [hq]) (by simp [hq]) (by simp [hq])
  have hk : (trimmed s).blen ≤ 17600 := trimmed_blen s
  have hc : (trimmed s).blen ≤ s.bufCap := hk.trans (Nat.le_add_right 17600 _)
  unfold execRxTrim
  rw [trimmed_frame]
  split_ifs with hrun
  · exact ⟨_, rfl, { h with
      bufCap := hc
      bufCapture := fun _ => Nat.le_add_right_of_le hk
      burstOpen := fun hz => absurd hb hz
      chunk := by simp
      matched := by simp
      matchList := fun hm _ _ _ => hl hm
      parsed := by simp
      running := fun _ => nofun
      capturing := fun _ => hrun
      held := held_of_running hr }⟩
  · exact ⟨_, rfl, { h with
      bufCap := hc
      bufCapture := nofun
      burstOpen := fun hz => absurd hb hz
      chunk := by simp
      matched := by simp
      matchList := fun hm _ _ _ => hl hm
      parsed := by simp
      running := fun hn => absurd hn hrun
      capturing := nofun
      held := held_of_running hr }⟩

/-- R201: a buffer that triggers holds a chunk. -/
theorem numChunks_pos {blen : Nat} (h : 5280 ≤ blen) : 0 < numChunks blen := by
  simp only [numChunks, Config.winChunks]
  omega

/-- R161, R162: Running, a run of samples leaves the burst open, triggers an attempt, or ends below the trigger. -/
theorem afterAppend_running (hrun : s.run = true) (n : Nat) :
    (afterAppend s n = { s with burst := s.burst + n }) ∨
    (5280 ≤ s.blen ∧ afterAppend s n = { s with rxSeq := .goertzel, cidx := 0, scnt := 0, burst := 0 }) ∨
    (s.blen < 5280 ∧ afterAppend s n = { s with rxSeq := .capture, burst := 0 }) := by
  rw [afterAppend, if_neg (by simp [hrun])]
  split_ifs with hlast htrig
  · exact .inl rfl
  · exact .inr (.inl ⟨of_decide_eq_true htrig, rfl⟩)
  · exact .inr (.inr ⟨by simpa [triggers] using htrig, rfl⟩)

/-- R161: a burst within `RD_MAX` fits the buffer, whether it stays open, triggers an attempt or ends. -/
theorem execRxAppend_safe (h : CoreInv s) (hr : s.rst = false) (hq : s.rxSeq = .capture) {xs : List Sample}
    {last : Bool} (hfit : s.burst + xs.length ≤ s.rdMax) : Safe (execRxAppend { s with adcData := xs, adcLast := last }) := by
  have hrun : s.run = true := h.capturing hq
  cases xs with
  | nil => exact ⟨_, if_pos hrun, { h with adcData := rfl, held := held_of_running hr }⟩
  | cons x xs =>
    have hbuf : (s.buf ++ x :: xs).length ≤ 17600 + (s.burst + (x :: xs).length) := by
      have := h.bufCapture hq
      rw [List.length_append]
      simp only [State.blen] at this
      omega
    have hcap : (s.buf ++ x :: xs).length ≤ s.bufCap := hbuf.trans (Nat.add_le_add_left hfit 17600)
    have hroom : ¬ s.bufCap < s.blen + (x :: xs).length := by simpa using hcap
    refine ⟨_, (if_neg (Nat.not_lt.mpr hfit)).trans (if_neg hroom), ?_⟩
    obtain e | ⟨htrig, e⟩ | ⟨hsmall, e⟩ := afterAppend_running
      (s := ({ s with adcData := x :: xs, adcLast := last } : State).append (x :: xs)) hrun (x :: xs).length <;> rw [e]
    · exact { h with
        bufCap := hcap
        bufCapture := fun _ => hbuf
        burst := hfit
        burstOpen := fun _ => hq
        adcData := rfl
        chunk := fun hc => absurd hc (by simp [hq])
        held := held_of_running hr }
    · exact { h with
        scnt := Nat.zero_le _
        bufCap := hcap
        bufCapture := nofun
        burst := Nat.zero_le _
        burstOpen := fun hz => absurd rfl hz
        adcData := rfl
        chunk := fun _ => ⟨numChunks_pos htrig, rfl⟩
        matched := by simp
        matchList := fun _ hg => absurd rfl hg
        parsed := by simp
        running := fun _ => nofun
        capturing := nofun
        held := held_of_running hr }
    · exact { h with
        bufCap := hcap
        bufCapture := fun _ => hsmall.le.trans (show 5280 ≤ 17600 + 0 by decide)
        burst := Nat.zero_le _
        burstOpen := fun _ => rfl
        adcData := rfl
        chunk := by simp
        matched := by simp
        matchList := fun hm _ _ _ => h.matchList hm (by simp [hq]) (by simp [hq]) (by simp [hq])
        parsed := by simp
        running := fun _ => nofun
        capturing := fun _ => hrun
        held := held_of_running hr }

/-- R63: a burst above `RD_MAX` has no step. -/
theorem execRxAppend_refused (h : CoreInv s) {xs : List Sample} {last : Bool} (hlong : s.rdMax < s.burst + xs.length) :
    execRxAppend { s with adcData := xs, adcLast := last } = .refused .burstTooLong := by
  cases xs with
  | nil => exact absurd h.burst (by simpa using hlong)
  | cons x xs => exact if_pos hlong

/-- R49: a turn of the receive sequencer completes and keeps the invariants. -/
theorem rxTurn_safe (h : CoreInv s) (hr : s.rst = false) : Safe (runFetched (activeMove .rx s)) := by
  rw [activeMove_rx]
  cases hq : s.rxSeq with
  | off => exact ⟨s, rfl, h⟩
  | capture => exact execRxAppend_safe h hr hq (by rw [h.adcData]; exact h.burst)
  | goertzel => exact execRxGoertzel_safe h hr hq
  | slice => exact execRxSlice_safe h hr hq
  | scan => exact execRxScan_safe h hr hq
  | unpack => exact execRxUnpack_safe h hr hq
  | parse => exact execRxParse_safe h hr hq
  | filter => exact execRxFilter_safe h hr hq
  | deliver => exact execRxDeliver_safe h hr hq
  | advance => exact execRxAdvance_safe h hr hq
  | trim => exact execRxTrim_safe h hr hq

/-! ### The transmit operations and the tone reads -/

/-- R141: the username and a message of at most 64 bytes make a payload of 1 to 81 bytes. -/
theorem execTxFrame_safe (h : CoreInv s) (hr : s.rst = false) (hq : s.txSeq = .frame) : Safe (execTxFrame s) := by
  have hl : s.username = some (s.user.toList.take s.ulen.toNat) := live_eq_some h.ulen
  have hn : (payload (s.user.toList.take s.ulen.toNat) s.txMsg).length ≤ 81 := by
    have := h.txMsg hq
    have := h.ulen
    rw [payload_length, live_length hl]
    omega
  have hpos : 1 ≤ (payload (s.user.toList.take s.ulen.toNat) s.txMsg).length := by rw [payload_length]; omega
  simp only [execTxFrame, hl, if_neg (Nat.not_lt.mpr hn)]
  generalize payload (s.user.toList.take s.ulen.toNat) s.txMsg = pay at hn hpos ⊢
  have ht : (BitVec.ofNat 7 pay.length).toNat = pay.length := by
    rw [BitVec.toNat_ofNat]
    exact Nat.mod_eq_of_lt (by omega)
  exact ⟨_, rfl, { h with
    busy := by simpa [hq] using h.busy
    txMsg := nofun
    txLen := fun _ => by dsimp only; omega
    play := nofun
    held := held_of_running hr }⟩

/-- R143: the frame of at most 81 payload bytes has at most 220 symbols. -/
theorem execTxPack_safe (h : CoreInv s) (hr : s.rst = false) (hq : s.txSeq = .pack) : Safe (execTxPack s) := by
  obtain ⟨hpos, hmax⟩ := h.txLen (.inl hq)
  have hl : s.liveTxPay = some (s.txPay.toList.take s.txLen.toNat) := live_eq_some hmax
  have hn : (BitVec.ofNat 8 (frameSyms (s.txPay.toList.take s.txLen.toNat)).length).toNat =
      4 + paySyms s.txLen.toNat := by
    rw [frameSyms_length, live_length hl, BitVec.toNat_ofNat]
    simp only [paySyms]
    omega
  simp only [execTxPack, hl]
  exact ⟨_, rfl, { h with
    busy := by simpa [hq] using h.busy
    txMsg := nofun
    txLen := fun _ => ⟨hpos, hmax⟩
    play := fun _ => ⟨hn, hn ▸ show 0 < _ by omega⟩
    txN := Nat.zero_le _
    held := held_of_running hr }⟩

/-- R143, R146: while playing, the counters select a frame symbol. -/
theorem CoreInv.fsym_eq_some (h : CoreInv s) (hq : s.txSeq = .play) : ∃ y, s.fsym = some y := by
  obtain ⟨hn, hi⟩ := h.play hq
  have hl : s.liveTxPay = some (s.txPay.toList.take s.txLen.toNat) := live_eq_some (h.txLen (.inr hq)).2
  rw [State.fsym, hl, Option.bind_some]
  refine ⟨_, List.getElem?_eq_getElem ?_⟩
  rw [frameSyms_length, live_length hl]
  omega

/-- R146: after a sample the counters still stand inside the frame, or the frame is over. -/
theorem afterSample_keeps (h : CoreInv s) (hr : s.rst = false) (hq : s.txSeq = .play) : CoreInv (afterSample s) := by
  obtain ⟨hn, hi⟩ := h.play hq
  have hmax := h.txN
  obtain ⟨_, e⟩ | ⟨hl, h175, e⟩ | ⟨_, h175, e⟩ := afterSample_cases s <;> rw [e]
  · exact { h with
      busyRun := nofun
      busy := by simp
      txMsg := nofun
      txLen := by simp
      play := nofun
      held := held_of_running hr }
  · have hne : s.txSymI.toNat + 1 ≠ s.txNSym.toNat := fun he => by simp [State.dacLast, he, h175] at hl
    exact { h with
      play := fun _ => ⟨hn, by dsimp only; bv_omega⟩
      txN := Nat.zero_le _
      held := held_of_running hr }
  · exact { h with
      txN := by dsimp only; bv_omega
      held := held_of_running hr }

theorem execTxPlay_safe (h : CoreInv s) (hr : s.rst = false) (hq : s.txSeq = .play) : Safe (execTxPlay s) := by
  have hrun : s.run = true := h.busyRun (h.busy.mpr (by simp [hq]))
  obtain ⟨y, hy⟩ := h.fsym_eq_some hq
  obtain ⟨v, hv, _⟩ := lutRead_eq_some (sym := y) (Nat.lt_succ_of_le h.txN)
  simp only [execTxPlay, hrun, hy, hv, Bool.not_true, Bool.false_eq_true, if_false]
  split_ifs
  · exact ⟨_, rfl, h⟩
  · have hp : CoreInv (s.dacPush v s.dacLast) := { h with held := held_of_running hr }
    exact ⟨_, rfl, afterSample_keeps hp hr hq⟩

/-- R24, R49: a turn of the transmit sequencer completes and keeps the invariants. -/
theorem txTurn_safe (h : CoreInv s) (hr : s.rst = false) : Safe (runFetched (activeMove .tx s)) := by
  rw [activeMove_tx]
  cases hq : s.txSeq with
  | idle => exact ⟨s, rfl, h⟩
  | frame => exact execTxFrame_safe h hr hq
  | pack => exact execTxPack_safe h hr hq
  | play => exact execTxPlay_safe h hr hq

/-- R131: `TXN` selects an entry of the table. -/
theorem exec_tone_safe (h : CoreInv s) (hr : s.rst = false) {i : Instr} (hi : i ∈ toneOps) : Safe (exec i s) := by
  obtain ⟨y, e⟩ := exec_tone hi s
  obtain ⟨v, hv, _⟩ := lutRead_eq_some (sym := y) (Nat.lt_succ_of_le h.txN)
  simp only [e, toneRead, hv]
  exact ⟨_, rfl, { h with held := held_of_running hr }⟩

/-! ### The command decoder (R258) -/

/-- The data a record owes fits, or is skipped (R99). -/
theorem CoreInv.dataFits (h : CoreInv s) (hq : s.cmdSeq = .data) (hk : s.cmdSkip = false) :
    DataFits s.cmdOp s.cmdLen := by
  obtain ⟨h3, h4⟩ := h.cmdFits hq hk
  obtain ho | ho := (h.cmdData hq).1
  · exact .inl ⟨ho, h3 ho⟩
  · exact .inr ⟨ho, h4 ho⟩

/-- Back in `C_OP` no record is open, whatever the staging register holds. -/
theorem CoreInv.recordDone (h : CoreInv s) (hr : s.rst = false) (buf : Vector Byte 64) :
    CoreInv { s with cmdSeq := .op, cmdBuf := buf } :=
  { h with cmdLen := nofun, cmdData := nofun, cmdFits := nofun, held := held_of_running hr }

theorem cmdByteOp_safe (h : CoreInv s) (hr : s.rst = false) (b : Byte) : Safe (runFetched (cmdByteOp b s)) := by
  obtain ⟨i, hi⟩ | ⟨hb, hi⟩ | ⟨_, hi⟩ := decode_opcode b <;> simp only [cmdByteOp, hi]
  · exact exec_command_safe (decode_cmd_legal hi) h hr
  · exact ⟨_, rfl, { h with
      cmdLen := fun _ => hb
      cmdData := nofun
      cmdFits := nofun
      held := held_of_running hr }⟩
  · exact ⟨_, rfl, { h with held := held_of_running hr }⟩

theorem cmdByteLen_safe (h : CoreInv s) (hr : s.rst = false) (hq : s.cmdSeq = .len) (b : Byte) :
    Safe (runFetched (cmdByteLen b s)) := by
  obtain ⟨i, hi⟩ | ⟨hf, hpos, hi⟩ | ⟨hl, hi⟩ := decode_operand b (h.cmdLen hq) <;> simp only [cmdByteLen, hi]
  · exact exec_command_safe (decode_cmd_legal hi) (h.recordDone hr s.cmdBuf) hr
  · exact ⟨_, rfl, { h with
      cmdLen := nofun
      cmdData := fun _ => ⟨by simp only [DataFits] at hf; tauto, hpos⟩
      cmdFits := fun _ _ => by simp only [DataFits] at hf; bv_omega
      held := held_of_running hr }⟩
  · exact ⟨_, rfl, { h with
      cmdLen := nofun
      cmdData := fun _ => by
        simp only [DataTooLong] at hl
        refine ⟨by dsimp only [State.raise]; tauto, show 0 < b.toNat by omega⟩
      cmdFits := fun _ => nofun
      held := held_of_running hr }⟩

theorem cmdByteData_safe (h : CoreInv s) (hr : s.rst = false) (hq : s.cmdSeq = .data) (b : Byte) :
    Safe (runFetched (cmdByteData b s)) := by
  obtain ⟨hop, hcnt⟩ := h.cmdData hq
  have hlen : s.cmdSkip = false → s.cmdLen.toNat ≤ 64 := fun hk => by
    have := h.dataFits hq hk
    simp only [DataFits] at this
    omega
  have hroom : ¬ (!s.cmdSkip && decide (64 ≤ s.cmdCnt.toNat)) = true := by
    cases hk : s.cmdSkip <;> simp
    have := hlen hk
    omega
  rw [cmdByteData, if_neg hroom]
  by_cases hmore : s.cmdCnt.toNat + 1 < s.cmdLen.toNat
  · rw [if_pos hmore, stageByte_frame]
    exact ⟨_, rfl, { h with
      cmdData := fun _ => ⟨hop, by dsimp only; bv_omega⟩
      held := held_of_running hr }⟩
  have hlast : s.cmdCnt.toNat + 1 = s.cmdLen.toNat := by omega
  rw [if_neg hmore, if_pos hlast]
  split_ifs with hk
  · exact ⟨_, rfl, h.recordDone hr s.cmdBuf⟩
  have hk : s.cmdSkip = false := by simpa using hk
  have hrec : s.record ++ [b] = s.cmdOp :: s.cmdLen :: (s.cmdBuf.toList.take s.cmdCnt.toNat ++ [b]) := by
    simp [State.record, hq]
  have hdata : (s.cmdBuf.toList.take s.cmdCnt.toNat ++ [b]).length = s.cmdLen.toNat := by
    have := hlen hk
    simp
    omega
  obtain ⟨i, hi⟩ := decode_wholeRecord (h.dataFits hq hk) hdata
  rw [stageByte_frame, hrec, hi]
  exact exec_command_safe (decode_cmd_legal hi) (h.recordDone hr _) hr

/-- R258: a byte on the command port is decoded without a fault. -/
theorem cmdByte_safe (h : CoreInv s) (hr : s.rst = false) (b : Byte) : Safe (runFetched (cmdByte b s)) := by
  cases hq : s.cmdSeq with
  | op => simpa only [cmdByte, hq] using cmdByteOp_safe h hr b
  | len => simpa only [cmdByte, hq] using cmdByteLen_safe h hr hq b
  | data => simpa only [cmdByte, hq] using cmdByteData_safe h hr hq b

/-! ### The event port (R239) -/

/-- R37: the record's bytes are those its lengths say. -/
theorem CoreInv.evBytes_length (h : CoreInv s) : s.ev.bytes.length = 2 + s.ev.slen.toNat + s.ev.mlen.toNat := by
  have := h.evLen
  rw [Record.bytes_length]
  omega

theorem evtTake_safe (h : CoreInv s) (hr : s.rst = false) (hv : s.evtValid = true) : Safe (runFetched (evtTake s)) := by
  have hlen := h.evBytes_length
  have hi : s.evi.toNat < s.ev.bytes.length := hlen ▸ h.evi
  have hd : s.evtData = some (s.ev.bytes[s.evi.toNat]) := List.getElem?_eq_getElem hi
  simp only [evtTake, hd]
  split_ifs with hlast
  · exact ⟨_, rfl, { h with
      evi := show 0 < 2 + s.ev.slen.toNat + s.ev.mlen.toNat by omega
      eviIdle := fun _ => rfl
      held := held_of_running hr }⟩
  · have hne : s.evi.toNat + 1 ≠ s.ev.bytes.length := by simpa [State.evtLast] using hlast
    have hle := h.evLen
    exact ⟨_, rfl, { h with
      evi := show (s.evi + 1).toNat < 2 + s.ev.slen.toNat + s.ev.mlen.toNat by bv_omega
      eviIdle := fun hn => absurd (hv.symm.trans hn) nofun
      held := held_of_running hr }⟩

/-! ### Steps -/

/-- R63: the one step that a state with the invariants may not have. -/
def OverlongBurst (s : State) (m : Move) (o : Outcome State Fault Refusal) : Prop :=
  o = .refused .burstTooLong ∧ ∃ xs last, m = .adc xs last ∧ s.rdMax < s.burst + xs.length

/-- Out of reset every move completes and keeps the invariants, but for an over-long burst. -/
theorem activeMove_safe (h : CoreInv s) (hr : s.rst = false) {m : Move} (hm : m ≠ .rst true) :
    Safe (runFetched (activeMove m s)) ∨ OverlongBurst s m (runFetched (activeMove m s)) := by
  cases m with
  | adc xs last =>
    cases ha : s.adcReady with
    | false => exact .inl ⟨s, by rw [activeMove, if_neg (by simp [ha])]; rfl, h⟩
    | true =>
      rw [activeMove_adc ha]
      by_cases hfit : s.burst + xs.length ≤ s.rdMax
      · exact .inl (execRxAppend_safe h hr ((adcReady_iff s).mp ha).2.2 hfit)
      · exact .inr ⟨execRxAppend_refused h (by omega), xs, last, rfl, by omega⟩
  | cmd b =>
    rw [activeMove]
    split_ifs
    · exact .inl (cmdByte_safe h hr b)
    · exact .inl ⟨s, rfl, h⟩
  | rx => exact .inl (rxTurn_safe h hr)
  | tx => exact .inl (txTurn_safe h hr)
  | tone y => exact .inl (exec_tone_safe h hr (decodeSym_mem_toneOps y))
  | evt =>
    rw [activeMove]
    split_ifs with hv
    · exact .inl (evtTake_safe h hr hv)
    · exact .inl ⟨s, rfl, h⟩
  | pins a d => exact .inl ⟨_, rfl, { h with held := held_of_running hr }⟩
  | dacReady r => exact .inl ⟨_, rfl, { h with held := held_of_running hr }⟩
  | rst level =>
    cases level with
    | true => exact absurd rfl hm
    | false => exact .inl ⟨_, rfl, { h with held := nofun }⟩

/-- The schedule is not part of the invariants. -/
theorem CoreInv.rescheduled (h : CoreInv s) (ms : List Move) (n : Nat) : CoreInv { s with moves := ms, tick := n } :=
  { h with held := fun x => congrArg (fun u : State => { u with moves := ms, tick := n }) (h.held x) }

/-- R48, R49: every step completes and keeps the invariants, but for an over-long burst. -/
theorem step_safe (h : CoreInv s) : Safe (step s) ∨ OverlongBurst s s.nextMove (step s) := by
  cases hr : s.resets s.nextMove with
  | true =>
    refine .inl ⟨_, step_reset hr, ?_⟩
    rw [moveTaken_frame]
    exact coreInv_reset_step (h.rescheduled _ _) _
  | false =>
    obtain ⟨ms, n, hf⟩ := fetch_active hr
    obtain ⟨hrst, hm⟩ : s.rst = false ∧ s.nextMove ≠ .rst true := by simpa [State.resets] using hr
    rw [step, hf]
    exact activeMove_safe (h.rescheduled ms n) hrst hm

theorem step_keeps (h : CoreInv s) (ht : step s = .next t) : CoreInv t := by
  obtain hs | ⟨hs, _⟩ := step_safe h
  · exact hs.inv ht
  · simp [hs] at ht

/-! ### Atomic steps (R15) -/

/-- A core with a turn of its own to take is out of reset. -/
theorem CoreInv.rst_of_not_settled (h : CoreInv s) (hs : s.settled = false) : s.rst = false := by
  by_contra hr
  rw [← h.held (by simpa using hr)] at hs
  cases hs

theorem ownTurn_keeps (h : CoreInv s) (hs : s.settled = false) (ht : ownTurn s = .next t) : CoreInv t := by
  have hr := h.rst_of_not_settled hs
  unfold ownTurn at ht
  split_ifs at ht
  · exact (txTurn_safe h hr).inv ht
  · exact (rxTurn_safe h hr).inv ht

theorem settle_keeps {n : Nat} (h : CoreInv s) (ht : settle n s = .next t) : CoreInv t := by
  induction n generalizing s with
  | zero => cases ht; exact h
  | succ n ih =>
    rw [settle] at ht
    split_ifs at ht with hs
    · cases ht; exact h
    · split at ht
      · next u hu => exact ih (ownTurn_keeps h (by simpa using hs) hu) ht
      · cases ht
      · cases ht

theorem atomicStep_keeps (h : CoreInv s) (ht : atomicStep s = .next t) : CoreInv t := by
  rw [atomicStep] at ht
  split at ht
  · next u hu => exact settle_keeps (step_keeps h hu) ht
  · cases ht
  · cases ht

end Sys2Proof.Safety

open Sys2Proof Sys2Proof.Machine Sys2Proof.Safety

/-- Settles O49, by evaluation of the reset state. -/
theorem resetValues : Obligations.ResetValues := by
  unfold Obligations.ResetValues NoFault NothingInFlight
  decide

/-- Settles O51: the reset state is the one a reset edge leaves. -/
theorem coreInvHoldsAtReset : Obligations.CoreInvHoldsAtReset :=
  coreInv_reset

/-- Settles O52: `step_keeps` and, turn by turn, `atomicStep_keeps`; a settled core is in no state in which R48's clause
on `MATCH` is suspended. -/
theorem everyStepKeepsCoreInv : Obligations.EveryStepKeepsCoreInv := by
  refine ⟨fun s t h ht => step_keeps h ht, fun s t h ht => ?_⟩
  have hi : CoreInv t := atomicStep_keeps h ht
  obtain ⟨hrx, htx⟩ := (settled_iff t).mp (atomicStep_settled ht)
  refine ⟨hi, fun hm => hi.matchList hm ?_ ?_ ?_, htx⟩ <;>
    (obtain e | e | ⟨e, _⟩ := hrx) <;> simp [e]

/-- Settles O53: `step_safe`. -/
theorem noStepFaultsUnderCoreInv : Obligations.NoStepFaultsUnderCoreInv := by
  intro s h
  obtain ⟨t, ht, _⟩ | ho := step_safe h
  · exact .inl ⟨t, ht⟩
  · exact .inr ho
end

section
/-! PROOF. The frame in flight: what a step from a state with the invariants does to the transmit side (R28, R146, R148,
R149). -/
namespace Sys2Proof.Safety

open Sys2Proof.Machine

variable {s t : State}

/-- The counters of R146 move on by one sample. -/
def NextSample (s t : State) : Prop :=
  (s.txN.toNat < 175 ∧ t.txSymI = s.txSymI ∧ t.txN = s.txN + 1) ∨
  (s.txN = 175 ∧ t.txSymI = s.txSymI + 1 ∧ t.txN = 0)

/-- What a step does to the transmit side, with the operation that does it: the transitions of R149. -/
inductive FrameEffect (s t : State) : Prop
  | reset (resets : s.resets s.nextMove = true) (seq' : t.txSeq = .idle) (busy' : t.txBusy = false)
  | kept (kept : TransmitKept s t)
  | sent {msg : List Byte} {u : State} (fetched : fetch s = .run (.send msg) u) (running : s.run = true)
      (free : s.txBusy = false) (seq : s.txSeq = .idle) (seq' : t.txSeq = .frame) (busy' : t.txBusy = true)
      (msg' : t.txMsg = msg)
  | cut {u : State} (fetched : fetch s = .run .stop u) (seq : s.txSeq = .play) (seq' : t.txSeq = .idle)
      (busy' : t.txBusy = false)
  | framed {u : State} (fetched : fetch s = .run .txFrame u) (seq : s.txSeq = .frame) (seq' : t.txSeq = .pack)
      (busy' : t.txBusy = s.txBusy) (msg' : t.txMsg = s.txMsg)
  | packed {u : State} (fetched : fetch s = .run .txPack u) (seq : s.txSeq = .pack) (seq' : t.txSeq = .play)
      (busy' : t.txBusy = s.txBusy) (msg' : t.txMsg = s.txMsg) (pay' : t.txPay = s.txPay) (len' : t.txLen = s.txLen)
  | finished {u : State} (fetched : fetch s = .run .txPlay u) (seq : s.txSeq = .play) (ready : s.dacReady = true)
      (last : s.dacLastPin = true) (seq' : t.txSeq = .idle) (busy' : t.txBusy = false)
  | sampled {u : State} (fetched : fetch s = .run .txPlay u) (seq : s.txSeq = .play) (ready : s.dacReady = true)
      (seq' : t.txSeq = .play) (busy' : t.txBusy = s.txBusy) (msg' : t.txMsg = s.txMsg) (pay' : t.txPay = s.txPay)
      (len' : t.txLen = s.txLen) (nsym' : t.txNSym = s.txNSym) (next : NextSample s t)

/-- Of the commands only an accepted `SEND` and a `STOP` write the transmit side. -/
theorem commandEffect_transmit {i : Instr} (h : CommandEffect s i t) :
    TransmitKept s t ∨
    (∃ msg, i = .send msg ∧ s.run = true ∧ s.txBusy = false ∧ t.txSeq = .frame ∧ t.txBusy = true ∧ t.txMsg = msg) ∨
    (i = .stop ∧ s.txSeq ≠ .idle ∧ t.txSeq = .idle ∧ t.txBusy = false) := by
  cases h with
  | accepted _ hr hb => exact .inr (.inl ⟨_, rfl, hr, hb, rfl, rfl, rfl⟩)
  | stopped =>
    by_cases hq : s.txSeq = .idle
    · exact .inl ⟨hq.symm, if_pos hq, rfl, rfl, rfl, rfl, rfl, rfl, rfl⟩
    · exact .inr (.inr ⟨rfl, hq, rfl, if_neg hq⟩)
  | unchanged => exact .inl (by constructor <;> rfl)
  | raised _ => exact .inl (by constructor <;> rfl)
  | started _ _ => exact .inl (by constructor <;> rfl)
  | named _ => exact .inl (by constructor <;> rfl)
  | cleared _ => exact .inl (by constructor <;> rfl)

/-- R146, R148: a turn in `TX_PLAY` of a Running core waits, ends the frame on its final sample, or moves on by one. -/
theorem play_effect (h : CoreInv s) (hrst : s.rst = false) (hq : s.txSeq = .play) {ms : List Move} {n : Nat}
    (hf : fetch s = .run .txPlay { s with moves := ms, tick := n })
    (he : execTxPlay { s with moves := ms, tick := n } = .next t) : FrameEffect s t := by
  have hrun : s.run = true := h.busyRun (h.busy.mpr (by simp [hq]))
  obtain ⟨hr, _⟩ | ⟨_, _, rfl⟩ | ⟨_, hd, v, rfl⟩ := execTxPlay_cases he
  · exact absurd (hrun.symm.trans hr) nofun
  · exact .kept (by constructor <;> rfl)
  · obtain ⟨hl, e⟩ | ⟨_, hn, e⟩ | ⟨_, hn, e⟩ := afterSample_cases
      (({ s with moves := ms, tick := n } : State).dacPush v ({ s with moves := ms, tick := n } : State).dacLast) <;>
      rw [e]
    · exact .finished hf hq hd ((dacLastPin_iff s).mpr ⟨hrst, hq, hl⟩) rfl rfl
    · have hn : s.txN = 175 := BitVec.eq_of_toNat_eq hn
      exact .sampled hf hq hd hq rfl rfl rfl rfl rfl (.inr ⟨hn, rfl, rfl⟩)
    · have hn : s.txN.toNat < 175 := Nat.lt_of_le_of_ne h.txN hn
      exact .sampled hf hq hd hq rfl rfl rfl rfl rfl (.inl ⟨hn, rfl, rfl⟩)

/-- R28, R149: what a step from a state with the invariants does to the transmit side. -/
theorem step_frame (h : CoreInv s) (ht : step s = .next t) : FrameEffect s t := by
  cases step_effect ht with
  | reset hr ht => exact .reset hr (by rw [ht, envMove_frame]; rfl) (by rw [ht, envMove_frame]; rfl)
  | kept k => exact .kept k.toTransmitKept
  | command hm hc _ hf he =>
    obtain k | ⟨msg, rfl, hrun, hb, hq, hb', hm'⟩ | ⟨rfl, hq, hq', hb'⟩ := commandEffect_transmit he
    · exact .kept { k with }
    · have hidle : s.txSeq = .idle := by
        by_contra hne
        exact absurd (hb.symm.trans (h.busy.mpr hne)) nofun
      exact .sent hf hrun hb hidle hq hb' hm'
    · exact .cut hf (play_of_not_building hq (txBuilding_of_nextMove_cmd hm hc)) hq' hb'
  | badLen _ _ _ ht => exact .kept (by rw [ht]; constructor <;> rfl)
  | badCmd _ _ _ ht => exact .kept (by rw [ht]; constructor <;> rfl)
  | frame hq hf he =>
    have e := execTxFrame_frame he
    exact .framed hf hq (by rw [e]) (by rw [e]) (by rw [e])
  | pack hq hf he =>
    have e := execTxPack_frame he
    exact .packed hf hq (by rw [e]) (by rw [e]) (by rw [e]) (by rw [e]) (by rw [e])
  | play hrst hq hf he => exact play_effect h hrst hq hf he

/-- R28: `TX_BUSY` rises by an accepted `SEND` only. -/
theorem FrameEffect.busy_rises (h : FrameEffect s t) (h0 : s.txBusy = false) (h1 : t.txBusy = true) :
    s.run = true ∧ ∃ msg u, fetch s = .run (.send msg) u ∧ t.txMsg = msg := by
  cases h with
  | sent hf hr _ _ _ _ hm => exact ⟨hr, _, _, hf, hm⟩
  | kept k => simp [k.txBusy, h0] at h1
  | reset _ _ hb | cut _ _ _ hb | framed _ _ _ hb _ | packed _ _ _ hb _ _ _ | finished _ _ _ _ _ hb
  | sampled _ _ _ _ hb _ _ _ _ _ => simp [hb, h0] at h1

/-- R28, R146, R148: `TX_BUSY` falls by a reset, a `STOP` in `TX_PLAY` or the final sample only. -/
theorem FrameEffect.busy_falls (h : FrameEffect s t) (h1 : s.txBusy = true) (h0 : t.txBusy = false) :
    s.resets s.nextMove = true ∨
    (s.txSeq = .play ∧ ∃ u, fetch s = .run .stop u) ∨
    (s.txSeq = .play ∧ s.dacReady = true ∧ s.dacLastPin = true ∧ ∃ u, fetch s = .run .txPlay u) := by
  cases h with
  | reset hr _ _ => exact .inl hr
  | cut hf hq _ _ => exact .inr (.inl ⟨hq, _, hf⟩)
  | finished hf hq hd hl _ _ => exact .inr (.inr ⟨hq, hd, hl, _, hf⟩)
  | kept k => simp [k.txBusy, h1] at h0
  | sent _ _ _ _ _ hb _ | framed _ _ _ hb _ | packed _ _ _ hb _ _ _ | sampled _ _ _ _ hb _ _ _ _ _ =>
    simp [hb, h1] at h0

/-- R75: a frame in flight goes forward undisturbed. -/
theorem FrameEffect.undisturbed (h : FrameEffect s t) (h1 : s.txBusy = true) (h1' : t.txBusy = true) :
    t.txMsg = s.txMsg ∧
    (s.txSeq = .frame → t.txSeq = .frame ∨ t.txSeq = .pack) ∧
    (s.txSeq = .pack → (t.txSeq = .pack ∨ t.txSeq = .play) ∧ t.txPay = s.txPay ∧ t.txLen = s.txLen) ∧
    (s.txSeq = .play → t.txSeq = .play ∧ t.txPay = s.txPay ∧ t.txLen = s.txLen ∧ t.txNSym = s.txNSym ∧
      (t.txSymI ≠ s.txSymI ∨ t.txN ≠ s.txN →
        s.dacReady = true ∧ (∃ u, fetch s = .run .txPlay u) ∧ NextSample s t)) := by
  cases h with
  | kept k =>
    obtain ⟨hq, _, hm, hp, hl, hn, hi, hx, _⟩ := k
    exact ⟨hm, fun e => .inl (hq.trans e), fun e => ⟨.inl (hq.trans e), hp, hl⟩,
      fun e => ⟨hq.trans e, hp, hl, hn, fun hne => by simp [hi, hx] at hne⟩⟩
  | framed _ hq hq' _ hm => exact ⟨hm, fun _ => .inr hq', by simp [hq], by simp [hq]⟩
  | packed _ hq hq' _ hm hp hl => exact ⟨hm, by simp [hq], fun _ => ⟨.inr hq', hp, hl⟩, by simp [hq]⟩
  | sampled hf hq hd hq' _ hm hp hl hn hx =>
    exact ⟨hm, by simp [hq], by simp [hq], fun _ => ⟨hq', hp, hl, hn, fun _ => ⟨hd, ⟨_, hf⟩, hx⟩⟩⟩
  | sent _ _ hb _ _ _ _ => simp [hb] at h1
  | reset _ _ hb | cut _ _ _ hb | finished _ _ _ _ _ hb => simp [hb] at h1'

/-- R149: the transitions of `TXSEQ`. -/
theorem FrameEffect.transition (h : FrameEffect s t) (hne : t.txSeq ≠ s.txSeq) :
    (s.txSeq = .idle ∧ t.txSeq = .frame ∧ ∃ msg u, fetch s = .run (.send msg) u) ∨
    (s.txSeq = .frame ∧ t.txSeq = .pack ∧ ∃ u, fetch s = .run .txFrame u) ∨
    (s.txSeq = .pack ∧ t.txSeq = .play ∧ ∃ u, fetch s = .run .txPack u) ∨
    (s.txSeq = .play ∧ t.txSeq = .idle ∧ ((∃ u, fetch s = .run .txPlay u) ∨ ∃ u, fetch s = .run .stop u)) ∨
    (s.resets s.nextMove = true ∧ t.txSeq = .idle) := by
  cases h with
  | sent hf _ _ hq hq' _ _ => exact .inl ⟨hq, hq', _, _, hf⟩
  | framed hf hq hq' _ _ => exact .inr (.inl ⟨hq, hq', _, hf⟩)
  | packed hf hq hq' _ _ _ _ => exact .inr (.inr (.inl ⟨hq, hq', _, hf⟩))
  | finished hf hq _ _ hq' _ => exact .inr (.inr (.inr (.inl ⟨hq, hq', .inl ⟨_, hf⟩⟩)))
  | cut hf hq hq' _ => exact .inr (.inr (.inr (.inl ⟨hq, hq', .inr ⟨_, hf⟩⟩)))
  | reset hr hq' _ => exact .inr (.inr (.inr (.inr ⟨hr, hq'⟩)))
  | kept k => exact absurd k.txSeq hne
  | sampled _ hq _ hq' _ _ _ _ _ _ => exact absurd (hq'.trans hq.symm) hne

end Sys2Proof.Safety

open Sys2Proof Sys2Proof.Safety

/-- Settles O58: `step_frame` says what a step does to the transmit side; each clause reads it off. -/
theorem frameInFlightIsUndisturbed : Obligations.FrameInFlightIsUndisturbed := by
  intro s t h ht
  have hf : FrameEffect s t := step_frame h ht
  exact ⟨hf.busy_rises, hf.busy_falls, hf.undisturbed, hf.transition⟩
end

section
/-! PROOF. Taking a pending event record byte by byte (R100, R239). -/
namespace Sys2Proof.Machine

open Sys2Proof.Safety

variable {s t : State}

/-- A run of one step more goes on from the state that the first step answers. -/
theorem run_succ_of_step (k : Nat) (h : step s = .next t) :
    Host.Core.run Sys2Proof.core (k + 1) s = Host.Core.run Sys2Proof.core k t := by
  have hs : Sys2Proof.core.step s = .next t := h
  simp only [Host.Core.run, hs]

/-- R239: out of reset, with an event pending, the host's turn on the event port takes a byte. -/
theorem step_evt {ms : List Move} (hm : s.moves = .evt :: ms) (hr : s.rst = false) (hv : s.evtValid = true) :
    step s = runFetched (evtTake { s with moves := ms }) := by
  obtain ⟨hn, ht⟩ := nextMove_cons hm (buildsFirst_not_command hm rfl)
  rw [step, fetch, hn, ht, fetchMove_active (by simp [State.resets, hr])]
  exact congrArg runFetched (if_pos hv)

/-- R239: a byte that is not the record's final one. -/
theorem evtTake_byte {b : Byte} (hb : s.ev.bytes[s.evi.toNat]? = some b) (hl : s.evi.toNat + 1 ≠ s.ev.bytes.length) :
    evtTake s = .idle { s.evtPush b false with evi := s.evi + 1 } := by
  simp [evtTake, State.evtData, State.evtLast, hb, hl]

/-- R239: the record's final byte releases it. -/
theorem evtTake_last {b : Byte} (hb : s.ev.bytes[s.evi.toNat]? = some b) (hl : s.evi.toNat + 1 = s.ev.bytes.length) :
    evtTake s = .idle { s.evtPush b true with evtValid := false, evi := 0 } := by
  simp [evtTake, State.evtData, State.evtLast, hb, hl]

/-- R239: the step that takes a byte before the final one. -/
theorem step_evt_byte {ms : List Move} {b : Byte} (hm : s.moves = .evt :: ms) (hr : s.rst = false)
    (hv : s.evtValid = true) (hb : s.ev.bytes[s.evi.toNat]? = some b) (hl : s.evi.toNat + 1 ≠ s.ev.bytes.length) :
    step s = .next { s with moves := ms, evtOut := (b, false) :: s.evtOut, evi := s.evi + 1 } :=
  (step_evt hm hr hv).trans (congrArg runFetched (evtTake_byte (s := { s with moves := ms }) hb hl))

/-- R239: the step that takes the final byte. -/
theorem step_evt_last {ms : List Move} {b : Byte} (hm : s.moves = .evt :: ms) (hr : s.rst = false)
    (hv : s.evtValid = true) (hb : s.ev.bytes[s.evi.toNat]? = some b) (hl : s.evi.toNat + 1 = s.ev.bytes.length) :
    step s = .next { s with moves := ms, evtOut := (b, true) :: s.evtOut, evtValid := false, evi := 0 } :=
  (step_evt hm hr hv).trans (congrArg runFetched (evtTake_last (s := { s with moves := ms }) hb hl))

/-- R100: the bytes of a record, each with its `evt_last`. -/
def markLast (bs : List Byte) : List (Byte × Bool) := bs.mapIdx fun j b => (b, decide (j + 1 = bs.length))

theorem markLast_cons_cons (b c : Byte) (bs : List Byte) :
    markLast (b :: c :: bs) = (b, false) :: markLast (c :: bs) := by
  simp [markLast, List.mapIdx_cons]

/-- R239: from any point of a pending record, the turns left hand over the bytes left, the last one marked. -/
theorem run_takes_rest (rest : List Byte) (s : State) (hr : s.rst = false) (hv : s.evtValid = true)
    (hrest : s.ev.bytes.drop s.evi.toNat = rest) (hne : rest ≠ []) (hlen : s.ev.bytes.length ≤ 18)
    (hm : s.moves = List.replicate rest.length .evt) :
    Host.Core.run Sys2Proof.core rest.length s = .next { s with
      moves := [], evtValid := false, evi := 0, evtOut := (markLast rest).reverse ++ s.evtOut } := by
  induction rest generalizing s with
  | nil => exact absurd rfl hne
  | cons b rest ih =>
    have hb : s.ev.bytes[s.evi.toNat]? = some b := by
      rw [← List.head?_drop, hrest, List.head?_cons]
    have hcount : s.ev.bytes.length = s.evi.toNat + (rest.length + 1) := by
      have := congrArg List.length hrest
      rw [List.length_drop, List.length_cons] at this
      omega
    cases rest with
    | nil => rw [List.length_singleton, run_succ_of_step 0 (step_evt_last hm hr hv hb hcount.symm)]; rfl
    | cons c rest =>
      have hmore : s.evi.toNat + 1 ≠ s.ev.bytes.length := by
        rw [hcount, List.length_cons]
        omega
      have hnext : (s.evi + 1).toNat = s.evi.toNat + 1 := by
        have := hcount.symm.trans_le hlen
        rw [List.length_cons] at this
        bv_omega
      have hdrop : s.ev.bytes.drop (s.evi + 1).toNat = c :: rest := by
        rw [hnext, ← List.drop_drop, hrest, List.drop_one, List.tail_cons]
      rw [List.length_cons, run_succ_of_step _ (step_evt_byte hm hr hv hb hmore)]
      refine (ih _ ?_ ?_ hdrop (List.cons_ne_nil _ _) ?_ rfl).trans ?_
      · exact hr
      · exact hv
      · exact hlen
      · simp [markLast_cons_cons]

end Sys2Proof.Machine

open Sys2Proof Sys2Proof.Machine Sys2Proof.Safety

/-- Settles O39: `run_takes_rest` from the first byte of the record. -/
theorem takeReadsTheWholeRecord : Obligations.TakeReadsTheWholeRecord := by
  intro s hr hv hi hlen
  have hbytes : BitVec.ofNat 8 s.ev.slen.toNat :: (s.ev.snd.toList.take s.ev.slen.toNat ++
      (BitVec.ofNat 8 s.ev.mlen.toNat :: s.ev.msg.toList.take s.ev.mlen.toNat)) = s.ev.bytes := by
    simp only [Record.bytes, Record.sender, Record.message, BitVec.ofNat_toNat]
  have hcount := s.ev.bytes_length
  dsimp only
  rw [hbytes]
  have hrun := run_takes_rest s.ev.bytes { s with moves := List.replicate s.ev.bytes.length .evt } hr hv
    (by simp [hi]) (List.ne_nil_of_length_pos (by omega)) (by dsimp only; omega) rfl
  rw [runMoves, hrun, ← hi]
  rfl
end

section
/-! PROOF. The storage spaces and who may write them: the username (R79), the sample buffer (R62, R74), the receive and the
transmit side (R76, R140), the ports that are not ready (R62 to R67), and the accesses outside a live range (R60, R63). -/
namespace Sys2Proof.Machine

open Sys2Proof.Safety

variable {s t : State}

/-! ### The username (R79, R237, R254) -/

/-- R79: of the commands only `SETUSER` writes the username. -/
theorem CommandEffect.username_eq {i : Instr} (h : CommandEffect s i t) :
    (t.user = s.user ∧ t.ulen = s.ulen) ∨ ∃ name, i = .setuser name := by
  cases h with
  | named _ => exact .inr ⟨_, rfl⟩
  | unchanged | raised _ | started _ _ | stopped | accepted _ _ _ | cleared _ => exact .inl ⟨rfl, rfl⟩

/-- R254: while Running a `SETUSER` leaves the username as it was. -/
theorem execSetuser_running {name : List Byte} (h : execSetuser name s = .next t) (hr : s.run = true) :
    t.user = s.user ∧ t.ulen = s.ulen := by
  rw [execSetuser, if_pos hr] at h
  split_ifs at h <;> cases h <;> exact ⟨rfl, rfl⟩

/-- R79, R237: a step keeps the username, but for a reset and a `SETUSER` in a Stopped core. -/
theorem step_username (h : step s = .next t) :
    (t.user = s.user ∧ t.ulen = s.ulen) ∨ s.resets s.nextMove = true ∨
    (s.run = false ∧ ∃ name u, fetch s = .run (.setuser name) u) := by
  cases step_effect h with
  | reset hr _ => exact .inr (.inl hr)
  | kept k => exact .inl ⟨k.user, k.ulen⟩
  | command _ _ _ hf he =>
    obtain hk | ⟨name, rfl⟩ := he.username_eq
    · exact .inl hk
    · cases hr : s.run with
      | false => exact .inr (.inr ⟨rfl, name, _, hf⟩)
      | true =>
        rw [step, hf] at h
        have hk := execSetuser_running (name := name) h hr
        exact .inl hk
  | badLen _ _ _ ht => exact .inl (by rw [ht]; exact ⟨rfl, rfl⟩)
  | badCmd _ _ _ ht => exact .inl (by rw [ht]; exact ⟨rfl, rfl⟩)
  | frame _ _ he => exact .inl (by rw [execTxFrame_frame he]; exact ⟨rfl, rfl⟩)
  | pack _ _ he => exact .inl (by rw [execTxPack_frame he]; exact ⟨rfl, rfl⟩)
  | play _ _ _ he => exact .inl (by rw [execTxPlay_frame he]; exact ⟨rfl, rfl⟩)

/-! ### The sample buffer (R62, R74, R161, R166, R207) -/

/-- R161: where the sequencer goes after an append does not touch the buffer. -/
@[simp] theorem afterAppend_buf (s : State) (n : Nat) : (afterAppend s n).buf = s.buf := by
  unfold afterAppend
  split_ifs <;> rfl

/-- R161: what `RX_APPEND` leaves in the buffer. -/
theorem execRxAppend_buf (h : execRxAppend s = .next t) : t.buf = s.buf ++ s.adcData := by
  unfold execRxAppend at h
  split at h
  · next hd => split_ifs at h <;> cases h <;> simp [hd]
  · next hd =>
    split_ifs at h
    cases h
    simp [hd]

theorem execRxGoertzel_buf (h : execRxGoertzel s = .next t) : t.buf = s.buf := by
  unfold execRxGoertzel at h
  split at h <;> cases h
  rfl

theorem execRxSlice_buf (h : execRxSlice s = .next t) : t.buf = s.buf := by
  simp only [execRxSlice] at h
  split_ifs at h <;> cases h <;> rfl

theorem execRxScan_buf (h : execRxScan s = .next t) : t.buf = s.buf := by
  unfold execRxScan at h
  split at h
  · cases h
  · split at h <;> cases h <;> rfl

theorem execRxUnpack_buf (h : execRxUnpack s = .next t) : t.buf = s.buf := by
  simp only [execRxUnpack] at h
  split at h
  · cases h
  · split_ifs at h
    cases h
    rfl

theorem execRxParse_buf (h : execRxParse s = .next t) : t.buf = s.buf := by
  unfold execRxParse at h
  split at h
  · cases h
  · split at h <;> cases h <;> rfl

theorem execRxFilter_buf (h : execRxFilter s = .next t) : t.buf = s.buf := by
  unfold execRxFilter at h
  split at h
  · cases h
  · split_ifs at h <;> cases h <;> rfl

theorem execRxDeliver_buf (h : execRxDeliver s = .next t) : t.buf = s.buf := by
  unfold execRxDeliver at h
  split_ifs at h <;> cases h <;> rfl

theorem execRxAdvance_buf (h : execRxAdvance s = .next t) : t.buf <:+ s.buf := by
  unfold execRxAdvance at h
  cases h
  exact List.drop_suffix _ _

/-- R166: a trim keeps the newest samples. -/
theorem trimmed_buf_suffix (s : State) : (trimmed s).buf <:+ s.buf := by
  unfold trimmed
  split_ifs
  · rw [State.dropOldest_buf]
    exact List.drop_suffix _ _
  · exact List.suffix_refl _

theorem execRxTrim_buf (h : execRxTrim s = .next t) : t.buf <:+ s.buf := by
  unfold execRxTrim at h
  split_ifs at h <;> cases h <;> exact trimmed_buf_suffix s

/-- R74: a receive operation appends what is on the ADC port, or keeps a newest part of the buffer. -/
theorem exec_receive_buf {i : Instr} (hi : i ∈ receiveOps) (h : exec i s = .next t) :
    t.buf = s.buf ++ s.adcData ∨ t.buf <:+ s.buf := by
  have keep (e : t.buf = s.buf) : t.buf = s.buf ++ s.adcData ∨ t.buf <:+ s.buf := .inr (e ▸ List.suffix_refl _)
  simp only [receiveOps, List.mem_cons, List.not_mem_nil, or_false] at hi
  obtain rfl | rfl | rfl | rfl | rfl | rfl | rfl | rfl | rfl | rfl := hi
  · exact .inl (execRxAppend_buf h)
  · exact keep (execRxGoertzel_buf h)
  · exact keep (execRxSlice_buf h)
  · exact keep (execRxScan_buf h)
  · exact keep (execRxUnpack_buf h)
  · exact keep (execRxParse_buf h)
  · exact keep (execRxFilter_buf h)
  · exact keep (execRxDeliver_buf h)
  · exact .inr (execRxAdvance_buf h)
  · exact .inr (execRxTrim_buf h)

/-- R252: of the commands only `START` writes the buffer, and empties it. -/
theorem CommandEffect.buf_suffix {i : Instr} (h : CommandEffect s i t) : t.buf <:+ s.buf := by
  cases h with
  | started _ _ => exact List.nil_suffix
  | unchanged | raised _ | stopped | named _ | accepted _ _ _ | cleared _ => exact List.suffix_refl _

/-- R62, R74: with nothing left on the ADC port, a step keeps a newest part of the buffer or appends the samples of an
ADC move that the port is ready for. -/
theorem step_buf (hd : s.adcData = []) (h : step s = .next t) :
    t.buf <:+ s.buf ∨
    (s.adcReady = true ∧ ∃ xs last, s.nextMove = .adc xs last ∧ t.buf = s.buf ++ xs) := by
  obtain ⟨_, rfl⟩ | ⟨_, m, f, ms, n, hm, _, hl, h⟩ := step_cases h
  · rw [envMove_frame]
    exact .inl List.nil_suffix
  have keep (e : t.buf = s.buf) : t.buf <:+ s.buf ∨
      (s.adcReady = true ∧ ∃ xs last, s.nextMove = .adc xs last ∧ t.buf = s.buf ++ xs) :=
    .inl (e ▸ List.suffix_refl _)
  cases hl with
  | receive hi =>
    obtain e | e := exec_receive_buf hi h
    · exact keep (by simpa [hd] using e)
    · exact .inl e
  | @burst xs last ha => exact .inr ⟨ha, xs, last, hm, execRxAppend_buf h⟩
  | command _ _ hi => exact .inl (effect_of_exec (exec_command hi _) h).buf_suffix
  | frame _ => exact keep (by rw [execTxFrame_frame h])
  | pack _ => exact keep (by rw [execTxPack_frame h])
  | play _ => exact keep (by rw [execTxPlay_frame h])
  | tone hi => exact keep (by rw [exec_tone_frame hi h])
  | environment => cases h; exact keep (by rw [envMove_frame])
  | stops _ => cases h
  | waits | staged | badLen _ _ | badCmd _ _ | eventByte _ | eventLast _ => cases h; exact keep rfl

/-! ### The transmit side (R140, R131) -/

/-- The operations of the transmit sequencer. -/
def transmitOps : List Instr := [.txFrame, .txPack, .txPlay]

/-- R140: a transmit operation or a tone read writes the transmit side only. -/
theorem exec_transmit_frame {i : Instr} (hi : i ∈ transmitOps ++ toneOps) (h : exec i s = .next t) :
    TransmitFrame s t := by
  obtain hi | hi := List.mem_append.mp hi
  · simp only [transmitOps, List.mem_cons, List.not_mem_nil, or_false] at hi
    obtain rfl | rfl | rfl := hi
    · rw [TransmitFrame, execTxFrame_frame h]
    · rw [TransmitFrame, execTxPack_frame h]
    · exact execTxPlay_frame h
  · rw [TransmitFrame, exec_tone_frame hi h]

/-! ### Moves that run no operation (R62 to R67, R320) -/

/-- Out of reset, the move that stands next is made, but for R15's turns. -/
theorem step_scheduled {m : Move} {ms : List Move} (hm : s.moves = m :: ms) (hb : s.buildsFirst = false)
    (hr : s.resets m = false) : step s = runFetched (activeMove m { s with moves := ms }) := by
  obtain ⟨hn, ht⟩ := nextMove_cons hm hb
  rw [step, fetch, hn, ht, fetchMove_active (s := { s with moves := ms }) hr]

/-- A move that meets a port which is not ready, or a sequencer with nothing to do. -/
inductive IdleMove (s : State) : Move → Prop
  | cmd (b : Byte) (h : s.cmdReady = false) : IdleMove s (.cmd b)
  | adc (xs : List Sample) (last : Bool) (h : s.adcReady = false) : IdleMove s (.adc xs last)
  | evt (h : s.evtValid = false) : IdleMove s .evt
  | rx (h : s.rxSeq = .off) : IdleMove s .rx
  | tx (h : s.txSeq = .idle) : IdleMove s .tx

/-- R62, R66, R67, R101: such a move runs nothing. -/
theorem IdleMove.activeMove_eq {m : Move} (h : IdleMove s m) : activeMove m s = .idle s := by
  cases h with
  | cmd b h => simp [activeMove, h]
  | adc xs last h => simp [activeMove, h]
  | evt h => simp [activeMove, h]
  | rx h => rw [activeMove_rx, h]
  | tx h => rw [activeMove_tx, h]

/-- Such a move is taken at once: it is no byte that the command port would take (R15). -/
theorem IdleMove.not_buildsFirst {m : Move} {ms : List Move} (h : IdleMove s m) (hm : s.moves = m :: ms) :
    s.buildsFirst = false := by
  cases h with
  | cmd b h => simp [State.buildsFirst, h]
  | adc _ _ _ | evt _ | rx _ | tx _ => exact buildsFirst_not_command hm rfl

/-- The schedule has no part in whether a move is idle. -/
theorem IdleMove.rescheduled {m : Move} (h : IdleMove s m) (ms : List Move) : IdleMove { s with moves := ms } m := by
  cases h with
  | cmd b h => exact .cmd b h
  | adc xs last h => exact .adc xs last h
  | evt h => exact .evt h
  | rx h => exact .rx h
  | tx h => exact .tx h

/-- R62 to R67: an idle move changes the schedule only. -/
theorem IdleMove.step_eq {m : Move} {ms : List Move} (h : IdleMove s m) (hm : s.moves = m :: ms)
    (hr : s.rst = false) : step s = .next { s with moves := ms } := by
  have hres : s.resets m = false := by cases h <;> simp [State.resets, hr]
  rw [step_scheduled hm (h.not_buildsFirst hm) hres, (h.rescheduled ms).activeMove_eq]
  rfl

/-! ### Accesses outside the live range (R60, R63) -/

/-- R63: a burst above `RD_MAX` has no step. -/
theorem execRxAppend_tooLong (hd : s.adcData ≠ []) (hl : s.rdMax < s.burst + s.adcData.length) :
    execRxAppend s = .refused .burstTooLong := by
  unfold execRxAppend
  split
  · next he => exact absurd he hd
  · next he => rw [if_pos (he ▸ hl)]

/-- R60: a burst that the buffer cannot hold. -/
theorem execRxAppend_overflow (hd : s.adcData ≠ []) (hl : s.burst + s.adcData.length ≤ s.rdMax)
    (hb : s.bufCap < s.blen + s.adcData.length) : execRxAppend s = .fault (.memRange .buf) := by
  unfold execRxAppend
  split
  · next he => exact absurd he hd
  · next he =>
    rw [he] at hl hb
    rw [if_neg (Nat.not_lt.mpr hl), if_pos hb]

/-- R168, R290: with no sample on the port, `RX_APPEND` waits while Running and leaves for `RX_OFF` while Stopped. -/
theorem execRxAppend_empty (hd : s.adcData = []) :
    execRxAppend s = .next (if s.run then { s with adcLast := false }
      else { s with adcLast := false, rxSeq := .off, burst := 0 }) := by
  have e : s.adcTaken = { s with adcLast := false } := by rw [State.adcTaken, ← hd]
  simp only [execRxAppend, hd, e]
  split_ifs <;> rfl

/-- R143: no symbol stands past the payload register or past the frame. -/
theorem fsym_eq_none (h : 81 < s.txLen.toNat ∨ 4 + paySyms s.txLen.toNat ≤ s.txSymI.toNat) : s.fsym = none := by
  by_cases hl : s.txLen.toNat ≤ 81
  · have hp : s.liveTxPay = some (s.txPay.toList.take s.txLen.toNat) := live_eq_some hl
    rw [State.fsym, hp, Option.bind_some, List.getElem?_eq_none_iff, frameSyms_length, live_length hp]
    omega
  · rw [State.fsym, State.liveTxPay, live_eq_none hl, Option.bind_none]

/-- R143: inside the frame a symbol stands at every index. -/
theorem exists_fsym (hl : s.txLen.toNat ≤ 81) (hi : s.txSymI.toNat < 4 + paySyms s.txLen.toNat) :
    ∃ y, s.fsym = some y := by
  have hp : s.liveTxPay = some (s.txPay.toList.take s.txLen.toNat) := live_eq_some hl
  rw [State.fsym, hp, Option.bind_some]
  refine ⟨_, List.getElem?_eq_getElem ?_⟩
  rwa [frameSyms_length, live_length hp]

/-- R60: `TX_PLAY` past the payload. -/
theorem execTxPlay_pastPayload (hr : s.run = true) (hd : s.dacReady = true)
    (h : 81 < s.txLen.toNat ∨ 4 + paySyms s.txLen.toNat ≤ s.txSymI.toNat) :
    execTxPlay s = .fault (.memRange .txpay) := by
  simp [execTxPlay, hr, hd, fsym_eq_none h]

/-- R60: `TX_PLAY` past the samples of a tone. -/
theorem execTxPlay_pastTone (hr : s.run = true) (hd : s.dacReady = true) (hl : s.txLen.toNat ≤ 81)
    (hi : s.txSymI.toNat < 4 + paySyms s.txLen.toNat) (hn : 175 < s.txN.toNat) :
    execTxPlay s = .fault (.memRange .lut) := by
  obtain ⟨y, hy⟩ := exists_fsym hl hi
  have hv : lutRead y s.txN.toNat = none := lutRead_eq_none (Nat.not_lt.mpr hn)
  simp [execTxPlay, hr, hd, hy, hv]

/-- R60: the payload of a username and a message that are too long together. -/
theorem execTxFrame_tooLong (hu : s.ulen.toNat ≤ 16) (hl : 80 < s.ulen.toNat + s.txMsg.length) :
    execTxFrame s = .fault (.memRange .txpay) := by
  have hn : s.username = some (s.user.toList.take s.ulen.toNat) := live_eq_some hu
  have hp : 81 < (payload (s.user.toList.take s.ulen.toNat) s.txMsg).length := by
    rw [payload_length, live_length hn]
    omega
  simp only [execTxFrame, hn, if_pos hp]

end Sys2Proof.Machine

open Sys2Proof Sys2Proof.Machine Sys2Proof.Safety

/-- Settles O54: `step_username`. -/
theorem usernameChangesOnlyStopped : Obligations.UsernameChangesOnlyStopped := by
  intro s t h hne
  obtain ⟨hu, hl⟩ | hc := step_username h
  · simp [hu, hl] at hne
  · exact hc

/-- Settles O56: by `step_buf` a buffer that grew took the samples of an ADC move. -/
theorem samplesEnterOnlyWhileCapturing : Obligations.SamplesEnterOnlyWhileCapturing := by
  intro s t hs h hlt
  obtain hk | ⟨ha, hx⟩ := step_buf hs.adcData h
  · exact absurd hk.length_le (Nat.not_le.mpr hlt)
  · obtain ⟨_, hrun, hq⟩ := (adcReady_iff s).mp ha
    exact ⟨hrun, hq, hx⟩

/-- Settles O59: the frames of the receive operations and of the transmit operations. -/
theorem sidesAreIndependent : Obligations.SidesAreIndependent :=
  fun _ _ => ⟨fun _ hi h => exec_receive_frame hi h, fun _ hi h => exec_transmit_frame hi h⟩

/-- Settles O8: `IdleMove.step_eq` for the ports and the sequencers, `step_scheduled` for the pins. -/
theorem idleTurnsChangeNothing : Obligations.IdleTurnsChangeNothing := by
  intro s m ms hm hr
  refine ⟨fun hidle => ?_, ?_, ?_, ?_⟩
  · have h : IdleMove s m := by
      obtain ⟨⟨b, rfl⟩, h⟩ | ⟨⟨xs, last, rfl⟩, h⟩ | ⟨rfl, h⟩ | ⟨rfl, h⟩ | ⟨rfl, h⟩ := hidle
      · exact .cmd b h
      · exact .adc xs last h
      · exact .evt h
      · exact .rx h
      · exact .tx h
    exact h.step_eq hm hr
  · rintro a d rfl
    exact step_scheduled hm (buildsFirst_not_command hm rfl) (by simp [State.resets, hr])
  · rintro r rfl
    exact step_scheduled hm (buildsFirst_not_command hm rfl) (by simp [State.resets, hr])
  · rintro rfl
    rw [step_scheduled hm (buildsFirst_not_command hm rfl) (by simp [State.resets, hr]), ← hr]
    rfl

/-- Settles O21: the refusal and the two cases of an empty port. -/
theorem appendRefusesAndWaits : Obligations.AppendRefusesAndWaits :=
  fun _ => ⟨execRxAppend_tooLong,
    fun hd hr => (execRxAppend_empty hd).trans (by rw [if_pos hr]),
    fun hd hr => (execRxAppend_empty hd).trans (by rw [if_neg (by simp [hr])])⟩

/-- Settles O48: each operation at the access that leaves its space. -/
theorem outOfRangeAccessFaults : Obligations.OutOfRangeAccessFaults := by
  intro s
  refine ⟨execRxAppend_overflow, fun h => ?_, fun h => ?_, fun h => ?_, fun h => ?_, execTxFrame_tooLong, fun h => ?_,
    fun hr hd => ⟨execTxPlay_pastPayload hr hd, execTxPlay_pastTone hr hd⟩⟩
  · exact if_neg (Nat.not_lt.mpr h)
  · have hn : s.liveSyms = none := live_eq_none (Nat.not_le.mpr h)
    exact ⟨by simp only [exec, execRxScan, hn], by simp only [exec, execRxUnpack, hn]⟩
  · have hn : s.livePbuf = none := live_eq_none (Nat.not_le.mpr h)
    simp only [exec, execRxParse, hn]
  · have hn : s.username = none := live_eq_none (Nat.not_le.mpr h)
    exact ⟨by simp only [exec, execRxFilter, hn], by simp only [exec, execTxFrame, hn]⟩
  · have hn : s.liveTxPay = none := live_eq_none (Nat.not_le.mpr h)
    simp only [exec, execTxPack, hn]
end

section
/-! PROOF. Encodings: what decodes is what the encoder writes, in every format (R23, R24, R90, R91, R98), and what is
rejected by which name (R99, R102). -/
namespace Sys2Proof

/-! ### Command records (R98) -/

/-- R98: data is decoded exactly where a length byte within the limit stands before that many bytes. -/
theorem decodeData_eq_ok_iff {limit : Nat} (hlimit : limit < 256) {mk : List Byte → Instr} {bytes rest : List Byte}
    {i : Instr} : decodeData limit mk bytes = .ok i rest ↔
      ∃ d : List Byte, d.length ≤ limit ∧ i = mk d ∧ bytes = BitVec.ofNat 8 d.length :: (d ++ rest) := by
  constructor
  · intro h
    cases bytes with
    | nil => cases h
    | cons len data =>
      rw [decodeData] at h
      split_ifs at h with hl hd
      cases h
      have hlen : (data.take len.toNat).length = len.toNat := by rw [List.length_take]; omega
      refine ⟨data.take len.toNat, by omega, rfl, ?_⟩
      rw [hlen, List.take_append_drop, BitVec.ofNat_toNat, BitVec.setWidth_eq]
  · rintro ⟨d, hd, rfl, rfl⟩
    have hlen : (BitVec.ofNat 8 d.length).toNat = d.length := by
      rw [BitVec.toNat_ofNat]
      exact Nat.mod_eq_of_lt (by omega)
    rw [decodeData, hlen, if_neg (by omega), if_neg (by simp), List.take_left, List.drop_left]

/-- R98: the record of a well-formed command is decoded to it, and what follows the record is left over. -/
theorem decodeStream_encode {i : Instr} {r : List Byte} (hi : i.wellFormed = true) (hr : encode i = .cmd r)
    (rest : List Byte) : decodeStream (r ++ rest) = .ok i rest := by
  cases i <;> cases hr
  case nop | start | stop | clrerr => rfl
  case setuser name => exact (decodeData_eq_ok_iff (by decide)).mpr ⟨name, of_decide_eq_true hi, rfl, rfl⟩
  case send msg => exact (decodeData_eq_ok_iff (by decide)).mpr ⟨msg, of_decide_eq_true hi, rfl, rfl⟩

/-- R98, R99: a stream from which a command is decoded begins with the record that the encoder gives it. -/
theorem encode_of_decodeStream {bytes rest : List Byte} {i : Instr} (h : decodeStream bytes = .ok i rest) :
    i.wellFormed = true ∧ ∃ r, encode i = .cmd r ∧ bytes = r ++ rest := by
  cases bytes with
  | nil => cases h
  | cons op data =>
    simp only [decodeStream] at h
    split_ifs at h with h0 h1 h2 h3 h4 h5
    · cases h; exact ⟨rfl, _, rfl, by rw [h0]; rfl⟩
    · cases h; exact ⟨rfl, _, rfl, by rw [h1]; rfl⟩
    · cases h; exact ⟨rfl, _, rfl, by rw [h2]; rfl⟩
    · obtain ⟨d, hd, rfl, rfl⟩ := (decodeData_eq_ok_iff (by decide)).mp h
      exact ⟨decide_eq_true hd, _, rfl, by rw [h3]; rfl⟩
    · obtain ⟨d, hd, rfl, rfl⟩ := (decodeData_eq_ok_iff (by decide)).mp h
      exact ⟨decide_eq_true hd, _, rfl, by rw [h4]; rfl⟩
    · cases data with
      | nil => cases h
      | cons mask _ => cases h; exact ⟨rfl, _, rfl, by rw [h5]; rfl⟩

/-- R98: a record is one whole command where no byte is left over. -/
theorem decode_cmd_eq_ok_iff {record : List Byte} {i : Instr} :
    decode (.cmd record) = .ok i ↔ decodeStream record = .ok i [] := by
  simp only [decode, decodeCmd]
  split <;> simp_all

/-- R98: the record of a well-formed command is decoded to it. -/
theorem decode_encode_cmd {i : Instr} {r : List Byte} (hi : i.wellFormed = true) (hr : encode i = .cmd r) :
    decode (.cmd r) = .ok i := by
  rw [decode_cmd_eq_ok_iff]
  simpa using decodeStream_encode hi hr []

/-- R98, R99: what a record is decoded to is well formed and has this record. -/
theorem encode_of_decode_cmd {r : List Byte} {i : Instr} (h : decode (.cmd r) = .ok i) :
    i.wellFormed = true ∧ encode i = .cmd r := by
  obtain ⟨hi, r', hr', rfl⟩ := encode_of_decodeStream (decode_cmd_eq_ok_iff.mp h)
  exact ⟨hi, by simpa using hr'⟩

/-- R98: a record with data has an opcode and a length byte before the data. -/
theorem dataRecord_length (op : Byte) (data : List Byte) : (dataRecord op data).length = 2 + data.length := by
  rw [dataRecord, List.length_cons, List.length_cons]
  omega

/-! ### State codes and symbols (R23, R24, R91) -/

/-- R23: an operation of the receive sequencer has the code it is decoded from. -/
theorem encode_of_decodeRx {code : BitVec 4} {i : Instr} (h : decodeRx code = .ok i) :
    i.wellFormed = true ∧ encode i = .rxseq code := by
  unfold decodeRx at h
  split at h <;> cases h
  all_goals next hcode => exact ⟨rfl, congrArg Code.rxseq (BitVec.eq_of_toNat_eq hcode.symm)⟩

/-- R24: an operation of the transmit sequencer has the code it is decoded from. -/
theorem encode_of_decodeTx {code : BitVec 2} {i : Instr} (h : decodeTx code = .ok i) :
    i.wellFormed = true ∧ encode i = .txseq code := by
  unfold decodeTx at h
  split at h <;> cases h
  all_goals next hcode => exact ⟨rfl, congrArg Code.txseq (BitVec.eq_of_toNat_eq hcode.symm)⟩

/-- R91, R131: each of the eight symbols is the encoding of its own tone read. -/
theorem encode_decodeSym : ∀ y : Symbol, (decodeSym y).wellFormed = true ∧ encode (decodeSym y) = .sym y := by
  decide

/-! ### Rejections (R99, R102) -/

/-- R102: an opcode byte from 0x06 on is reserved, whatever follows it. -/
theorem decode_reserved {op : Byte} (h : 6 ≤ op.toNat) (rest : List Byte) :
    decode (.cmd (op :: rest)) = .rejected .reservedOpcode := by
  have hne : ∀ c : Byte, c.toNat < 6 → op ≠ c := fun c hc e => absurd (e ▸ h) (Nat.not_le.mpr hc)
  simp [decode, decodeCmd, decodeStream, hne]

/-- R99: a length byte above the limit of its opcode is rejected, whatever follows it. -/
theorem decode_tooLong {op len : Byte} (h : DataTooLong op len) (rest : List Byte) :
    decode (.cmd (op :: len :: rest)) = .rejected .badLen := by
  have hdata : ∀ {limit : Nat} (mk : List Byte → Instr), limit < len.toNat →
      decodeData limit mk (len :: rest) = .rejected .badLen := fun mk hl => by rw [decodeData, if_pos hl]
  obtain ⟨rfl, hl⟩ | ⟨rfl, hl⟩ := h
  · have e : decodeStream (3 :: len :: rest) = decodeData 16 .setuser (len :: rest) := rfl
    simp only [decode, decodeCmd, e, hdata _ hl]
  · have e : decodeStream (4 :: len :: rest) = decodeData 64 .send (len :: rest) := rfl
    simp only [decode, decodeCmd, e, hdata _ hl]

/-- R23: codes 11 to 15 of the receive sequencer are unused. -/
theorem decode_rxseq_unused : ∀ code : BitVec 4, 11 ≤ code.toNat → decode (.rxseq code) = .rejected .unusedCode := by
  decide

end Sys2Proof

open Sys2Proof

/-- Settles O1: `decode_encode_cmd` for the commands; every other operation has one fixed code. -/
theorem decodeInvertsEncode : Obligations.DecodeInvertsEncode := by
  intro i hi
  cases i with
  | nop | start | stop | setuser _ | send _ | clrerr _ => exact decode_encode_cmd hi rfl
  | _ => rfl

/-- Settles O2, format by format. -/
theorem decodedEncodingIsCanonical : Obligations.DecodedEncodingIsCanonical := by
  intro c i h
  cases c with
  | cmd record => exact encode_of_decode_cmd h
  | rxseq code => exact encode_of_decodeRx h
  | txseq code => exact encode_of_decodeTx h
  | sym y => cases h; exact encode_decodeSym y

/-- Settles O3: `decodeStream_encode`, and the length of each command's record. -/
theorem commandRecordsDelimitThemselves : Obligations.CommandRecordsDelimitThemselves := by
  intro i r rest hi hr
  refine ⟨decodeStream_encode hi hr rest, ?_⟩
  cases i <;> cases hr
  case nop | start | stop | clrerr => rfl
  case setuser name => exact dataRecord_length 0x03 name
  case send msg => exact dataRecord_length 0x04 msg

/-- Settles O4, by evaluation of the ten words. -/
theorem tableWordsDecode : Obligations.TableWordsDecode := by
  unfold Obligations.TableWordsDecode
  decide

/-- Settles O5: `decode_reserved` for the opcodes, `decode_tooLong` for the lengths, the codes by evaluation. -/
theorem badEncodingsAreRejected : Obligations.BadEncodingsAreRejected :=
  ⟨fun _ rest h => decode_reserved h rest,
    fun _ rest h => decode_tooLong (.inl ⟨rfl, h⟩) rest,
    fun _ rest h => decode_tooLong (.inr ⟨rfl, h⟩) rest,
    rfl, decode_rxseq_unused, rfl⟩
end

section
/-! PROOF. `UNPACK` after `PACK` (R96, R97): both streams hold the same bits, and eight bits of a byte, most significant
first, make the byte. -/
namespace Sys2Proof.Machine

/-- R96: the bits of an assembled symbol, most significant first. -/
theorem symOfBits_getLsbD : ∀ x y z : Bool, (symOfBits x y z).getLsbD 2 = x ∧ (symOfBits x y z).getLsbD 1 = y ∧
    (symOfBits x y z).getLsbD 0 = z := by
  decide

/-- R96: the symbol at an index takes its three bits from the byte stream, where the payload has that many symbols. -/
theorem pack_getD {bs : List Byte} {j : Nat} (h : j < paySyms bs.length) :
    (pack bs).getD j 0 = symOfBits (byteBit bs (3 * j)) (byteBit bs (3 * j + 1)) (byteBit bs (3 * j + 2)) := by
  simp [pack, List.getD_eq_getElem?_getD, h]

/-- R96, R97: the bytes and their packed symbols are the same stream of bits, as far as the symbols go. -/
theorem symBit_pack {bs : List Byte} {b : Nat} (h : b < 3 * paySyms bs.length) :
    symBit (pack bs) b = byteBit bs b := by
  obtain ⟨hx, hy, hz⟩ := symOfBits_getLsbD (byteBit bs (3 * (b / 3))) (byteBit bs (3 * (b / 3) + 1))
    (byteBit bs (3 * (b / 3) + 2))
  rw [symBit, pack_getD (by omega)]
  obtain hr | hr | hr : b % 3 = 0 ∨ b % 3 = 1 ∨ b % 3 = 2 := by omega
  · rw [hr, hx, show 3 * (b / 3) = b by omega]
  · rw [hr, hy, show 3 * (b / 3) + 1 = b by omega]
  · rw [hr, hz, show 3 * (b / 3) + 2 = b by omega]

/-- R97: the bits of a byte, each at its weight, add up to it. -/
theorem byte_eq_sum_bits (x : Byte) :
    BitVec.ofNat 8 ((List.range 8).map fun t => (x.getLsbD (7 - t)).toNat * 2 ^ (7 - t)).sum = x := by
  have hx : x.toNat < 256 := x.isLt
  have hbit : ∀ k, (x.getLsbD k).toNat = x.toNat / 2 ^ k % 2 := Nat.toNat_testBit x.toNat
  apply BitVec.eq_of_toNat_eq
  simp [List.range_succ, hbit]
  omega

/-- R97: byte `m` is assembled from any stream that agrees with the bytes on its eight bits. -/
theorem byteOfBits_eq {bs : List Byte} {bit : Nat → Bool} {m : Nat}
    (h : ∀ t, t < 8 → bit (8 * m + t) = byteBit bs (8 * m + t)) : byteOfBits bit m = bs.getD m 0 := by
  have hbit : ∀ t ∈ List.range 8, (bit (8 * m + t)).toNat * 2 ^ (7 - t) =
      ((bs.getD m 0).getLsbD (7 - t)).toNat * 2 ^ (7 - t) := by
    intro t ht
    have ht : t < 8 := List.mem_range.mp ht
    rw [h t ht, byteBit, show (8 * m + t) / 8 = m by omega, show (8 * m + t) % 8 = t by omega]
  rw [byteOfBits, List.map_congr_left hbit, byte_eq_sum_bits]

/-- R93: the symbols of `n` bytes hold `n` whole bytes, with at most two bits to spare. -/
theorem paySyms_bits (n : Nat) : 8 * n ≤ 3 * paySyms n ∧ 3 * paySyms n / 8 = n := by
  unfold paySyms
  omega

/-- R96, R97: the bits that `PACK` adds to fill the last symbol are the ones that `UNPACK` drops. -/
theorem unpack_pack (bs : List Byte) : unpack (pack bs) = bs := by
  obtain ⟨hbits, hlen⟩ := paySyms_bits bs.length
  refine List.ext_getElem (by simp [hlen]) fun m _ hm => ?_
  have hbyte : byteOfBits (symBit (pack bs)) m = bs.getD m 0 :=
    byteOfBits_eq fun t ht => symBit_pack (by omega)
  simp [unpack, hbyte, hm]

end Sys2Proof.Machine

/-- Settles O32: `unpack_pack`. -/
theorem unpackInvertsPack : Obligations.UnpackInvertsPack := Sys2Proof.Machine.unpack_pack
end

section
/-! PROOF. Which operation a step runs (R101, R131), and the command bytes that run none: a reserved opcode (R102) and a
record whose length is illegal (R99, R258). -/
namespace Sys2Proof.Machine

variable {s : State}

/-! ### Codes that select an operation (R23, R24, R101, R131) -/

/-- R101: a code that stands for an operation runs it. -/
theorem runCode_ok {c : Code} {i : Instr} (h : decode c = .ok i) (s : State) : runCode c s = .run i s := by
  rw [runCode, h]

/-- Out of reset, a move that is no command byte and leads to an operation makes the step that operation. -/
theorem step_eq_exec {m : Move} {ms : List Move} {i : Instr} {u : State} (hm : s.moves = m :: ms)
    (hcmd : isCommandByte m = false) (hr : s.rst = false) (h : activeMove m { s with moves := ms } = .run i u) :
    step s = exec i u := by
  have hres : s.resets m = false := by
    have hm : m ≠ .rst true := by rintro rfl; cases h
    simp [State.resets, hr, hm]
  rw [step_scheduled hm (buildsFirst_not_command hm hcmd) hres, h, runFetched]

/-! ### A byte on the command port (R66, R258) -/

/-- R66, R258: a byte that the command port takes goes to the decoder. -/
theorem step_cmd {b : Byte} {ms : List Move} (hm : s.moves = .cmd b :: ms) (hc : s.cmdReady = true)
    (hb : s.txBuilding = false) : step s = runFetched (cmdByte b { s with moves := ms }) := by
  have hr : s.rst = false := by
    simp only [State.cmdReady, Bool.and_eq_true, Bool.not_eq_true'] at hc
    exact hc.1
  rw [step_scheduled hm (buildsFirst_not_building hb) (by simp [State.resets, hr])]
  exact congrArg runFetched (if_pos hc)

theorem cmdByte_op (hq : s.cmdSeq = .op) (b : Byte) : cmdByte b s = cmdByteOp b s := by
  rw [cmdByte, hq]

theorem cmdByte_len (hq : s.cmdSeq = .len) (b : Byte) : cmdByte b s = cmdByteLen b s := by
  rw [cmdByte, hq]

theorem cmdByte_data (hq : s.cmdSeq = .data) (b : Byte) : cmdByte b s = cmdByteData b s := by
  rw [cmdByte, hq]

/-- R102: a reserved opcode byte raises `BAD_CMD`. -/
theorem cmdByte_reserved {b : Byte} (hq : s.cmdSeq = .op) (h : 6 ≤ b.toNat) :
    cmdByte b s = .idle (s.raise .badCmd) := by
  rw [cmdByte_op hq, cmdByteOp, decode_reserved h]

/-- R98, R258: the opcode of a command with data opens a record. -/
theorem cmdByte_opensData {op : Byte} (hq : s.cmdSeq = .op) (h : op = 3 ∨ op = 4) :
    cmdByte op s = .idle { s with cmdOp := op, cmdSeq := .len } := by
  rw [cmdByte_op hq]
  obtain rfl | rfl := h <;> rfl

/-- R99, R258: an illegal length raises `BAD_LEN`, and its data is to be skipped. -/
theorem cmdByte_tooLong {len : Byte} (hq : s.cmdSeq = .len) (h : DataTooLong s.cmdOp len) :
    cmdByte len s =
      .idle { s.raise .badLen with cmdLen := len, cmdCnt := 0, cmdSkip := true, cmdSeq := .data } := by
  rw [cmdByte_len hq, cmdByteLen, decode_tooLong h]

/-- R258: a byte of skipped data before the final one is counted. -/
theorem cmdByte_skip (hq : s.cmdSeq = .data) (hk : s.cmdSkip = true) (hl : s.cmdCnt.toNat + 1 < s.cmdLen.toNat)
    (b : Byte) : cmdByte b s = .idle { s with cmdCnt := s.cmdCnt + 1 } := by
  rw [cmdByte_data hq]
  simp [cmdByteData, State.stageByte, hk, hl]

/-- R258: the final byte of skipped data leads back to `C_OP`. -/
theorem cmdByte_skipLast (hq : s.cmdSeq = .data) (hk : s.cmdSkip = true) (hl : s.cmdCnt.toNat + 1 = s.cmdLen.toNat)
    (b : Byte) : cmdByte b s = .idle { s with cmdSeq := .op } := by
  rw [cmdByte_data hq]
  simp [cmdByteData, hk, hl]

/-! ### A record with an illegal length (R99, R258) -/

/-- A byte after which the decoder waits for the next one, or for the next command, is one step of a run. -/
theorem run_succ_of_cmdByte {b : Byte} {ms : List Move} {t : State} (k : Nat) (hm : s.moves = .cmd b :: ms)
    (hc : s.cmdReady = true) (hb : s.txBuilding = false) (h : cmdByte b { s with moves := ms } = .idle t) :
    Host.Core.run Sys2Proof.core (k + 1) s = Host.Core.run Sys2Proof.core k t :=
  run_succ_of_step k ((step_cmd hm hc hb).trans (congrArg runFetched h))

/-- R99, R258: the bytes left of skipped data are consumed and bring the decoder back to `C_OP`. -/
theorem run_skips (d : List Byte) (s : State) (hq : s.cmdSeq = .data) (hk : s.cmdSkip = true)
    (hc : s.cmdReady = true) (hb : s.txBuilding = false) (hne : d ≠ [])
    (hl : s.cmdCnt.toNat + d.length = s.cmdLen.toNat) (hm : s.moves = d.map .cmd) :
    Host.Core.run Sys2Proof.core d.length s =
      .next { s with moves := [], cmdSeq := .op, cmdCnt := s.cmdLen - 1 } := by
  induction d generalizing s with
  | nil => exact absurd rfl hne
  | cons b d ih =>
    rw [List.length_cons] at hl ⊢
    cases d with
    | nil =>
      have hcnt : s.cmdCnt = s.cmdLen - 1 := by rw [List.length_nil] at hl; bv_omega
      rw [run_succ_of_cmdByte _ hm hc hb (cmdByte_skipLast (s := { s with moves := [] }) hq hk hl b), ← hcnt]
      rfl
    | cons c d =>
      rw [List.length_cons] at hl
      have hcnt : (s.cmdCnt + 1).toNat + (c :: d).length = s.cmdLen.toNat := by
        rw [List.length_cons]
        bv_omega
      have hmore : s.cmdCnt.toNat + 1 < s.cmdLen.toNat := by omega
      rw [run_succ_of_cmdByte _ hm hc hb (cmdByte_skip (s := { s with moves := (c :: d).map .cmd }) hq hk hmore b)]
      exact ih _ hq hk hc hb (List.cons_ne_nil _ _) hcnt rfl

/-- R99, R258: a whole record with an illegal length raises `BAD_LEN`, and otherwise writes only the
staging registers. -/
theorem run_overlongRecord {op len : Byte} {d : List Byte} (hlong : DataTooLong op len) (hd : d.length = len.toNat)
    (hq : s.cmdSeq = .op) (hc : s.cmdReady = true) (hb : s.txBuilding = false)
    (hm : s.moves = (op :: len :: d).map .cmd) :
    Host.Core.run Sys2Proof.core (d.length + 2) s = .next { s.raise .badLen with
      moves := [], cmdSeq := .op, cmdOp := op, cmdLen := len, cmdCnt := len - 1, cmdSkip := true } := by
  have hop : op = 3 ∨ op = 4 := hlong.imp And.left And.left
  have hne : d ≠ [] := by
    obtain ⟨_, h⟩ | ⟨_, h⟩ := hlong <;> exact List.ne_nil_of_length_pos (by omega)
  calc
    _ = Host.Core.run Sys2Proof.core (d.length + 1)
          { s with moves := (len :: d).map .cmd, cmdOp := op, cmdSeq := .len } :=
      run_succ_of_cmdByte _ hm hc hb (cmdByte_opensData (s := { s with moves := (len :: d).map .cmd }) hq hop)
    _ = Host.Core.run Sys2Proof.core d.length { s.raise .badLen with
          moves := d.map .cmd, cmdOp := op, cmdLen := len, cmdCnt := 0, cmdSkip := true, cmdSeq := .data } :=
      run_succ_of_cmdByte _ rfl hc hb
        (cmdByte_tooLong (s := { s with moves := d.map .cmd, cmdOp := op, cmdSeq := .len }) rfl hlong)
    _ = _ := run_skips d _ rfl rfl hc hb hne ((Nat.zero_add _).trans hd) rfl

end Sys2Proof.Machine

open Sys2Proof Sys2Proof.Machine Sys2Proof.Safety

/-- Settles O7: the move of each clause leads to the operation that its code selects. -/
theorem stepRunsSequencerOperation : Obligations.StepRunsSequencerOperation :=
  ⟨fun _ _ _ hm hr hi => step_eq_exec hm rfl hr (runCode_ok hi _),
    fun _ _ _ hm hr hi => step_eq_exec hm rfl hr (runCode_ok hi _),
    fun _ _ _ _ hm hr hi => step_eq_exec hm rfl hr (runCode_ok hi _),
    fun s _ _ _ _ hm ha hi =>
      step_eq_exec hm rfl ((adcReady_iff s).mp ha).1 ((if_pos ha).trans (runCode_ok hi _))⟩

/-- Settles O10: `run_overlongRecord`. -/
theorem overlongRecordIsSkippedWhole : Obligations.OverlongRecordIsSkippedWhole := by
  intro s op len d hlong hd hq hc hb
  have hrun := run_overlongRecord (s := { s with moves := (op :: len :: d).map .cmd }) hlong hd hq hc hb rfl
  rw [runMoves, Nat.add_comm, hrun, ← hq]
  exact ⟨_, rfl, rfl⟩

/-- Settles O11: `cmdByte_reserved`. -/
theorem reservedOpcodeRaisesBadCmd : Obligations.ReservedOpcodeRaisesBadCmd := by
  intro s b ms hm hc hb hq hrange
  exact (step_cmd hm hc hb).trans (congrArg runFetched (cmdByte_reserved (s := { s with moves := ms }) hq hrange))
end

section
/-! PROOF. The symbol detector on the tone table and on silence (R131, R133, R186, R188). -/
namespace Sys2Proof.Machine

/-! ### The tone reads (R60, R131) -/

/-- R60, R131: a tone read answers the table's entry inside the symbol, and is a fault past it. -/
theorem toneRead_cases (s : State) (y : Sys2Proof.Symbol) :
    (s.txN.toNat ≤ 175 → ∃ v : Sample, lut[176 * y.toNat + s.txN.toNat]? = some v ∧
      toneRead y s = .next { s with toneOut := v }) ∧
    (175 < s.txN.toNat → toneRead y s = .fault (.memRange .lut)) := by
  refine ⟨fun h => ?_, fun h => ?_⟩
  · obtain ⟨v, hread, hentry⟩ := lutRead_eq_some (sym := y) (Nat.lt_succ_of_le h)
    exact ⟨v, hentry, by rw [toneRead, hread]⟩
  · rw [toneRead, lutRead_eq_none (by omega)]

/-! ### The slicer (R186) -/

/-- R186: the running choice over a rising list of channels: greatest energy, and the lowest channel that has it. -/
theorem foldl_lowest_max (f : Fin 8 → Nat) (l : List (Fin 8)) (b : Fin 8) (hl : (b :: l).Pairwise (· < ·)) :
    let r := l.foldl (fun best s => if f best < f s then s else best) b
    ∀ j ∈ b :: l, f j ≤ f r ∧ (j < r → f j < f r) := by
  induction l generalizing b with
  | nil => simp
  | cons a l ih =>
    obtain ⟨hb, ha⟩ := List.pairwise_cons.mp hl
    have hba : b < a := hb a List.mem_cons_self
    rw [List.foldl_cons]
    split_ifs with hlt
    · have ih := ih a ha
      have hra := (ih a List.mem_cons_self).1
      intro r j hj
      obtain rfl | hj := List.mem_cons.mp hj
      · exact ⟨hlt.le.trans hra, fun _ => hlt.trans_le hra⟩
      · exact ih j hj
    · have ih := ih b (hl.sublist ((List.sublist_cons_self a l).cons_cons b))
      obtain ⟨hrb, hrb'⟩ := ih b List.mem_cons_self
      intro r j hj
      obtain rfl | hj := List.mem_cons.mp hj
      · exact ⟨hrb, hrb'⟩
      obtain rfl | hj := List.mem_cons.mp hj
      · exact ⟨(not_lt.mp hlt).trans hrb, fun hjr => (not_lt.mp hlt).trans_lt (hrb' (hba.trans hjr))⟩
      · exact ih j (List.mem_cons_of_mem b hj)

/-- R186: no channel has more energy than the one picked, and every lower channel has less. -/
theorem argmax_spec (en : Vector (BitVec 64) 8) (j : Fin 8) :
    (en.get j).toNat ≤ (en.get (argmax en)).toNat ∧
    (j < argmax en → (en.get j).toNat < (en.get (argmax en)).toNat) := by
  have hall : ∀ j : Fin 8, j ∈ ([0, 1, 2, 3, 4, 5, 6, 7] : List (Fin 8)) := by decide
  exact foldl_lowest_max (fun i => (en.get i).toNat) [1, 2, 3, 4, 5, 6, 7] 0 (by decide) j (hall j)

/-- R186: a channel with more energy than every other is picked. -/
theorem argmax_eq_of_lt {en : Vector (BitVec 64) 8} {i : Fin 8}
    (h : ∀ j, j ≠ i → (en.get j).toNat < (en.get i).toNat) : argmax en = i := by
  by_contra hne
  exact absurd (argmax_spec en i).1 (not_le.mpr (h _ hne))

/-- R186: where all energies are equal, channel 0 is picked. -/
theorem argmax_eq_zero {en : Vector (BitVec 64) 8} (h : ∀ i j, en.get i = en.get j) : argmax en = 0 := by
  by_contra hne
  exact absurd ((argmax_spec en 0).2 (Fin.pos_of_ne_zero hne)) (by rw [h 0 (argmax en)]; exact lt_irrefl _)

/-- R186, R192: the symbol of a chunk is the channel picked from its energies. -/
theorem detect_eq {xs : List Sample} {i : Fin 8} (h : argmax (Vector.ofFn (bankEnergy xs)) = i) :
    detect xs = BitVec.ofFin i := by
  rw [detect, sliced, h]
  exact BitVec.eq_of_toNat_eq (Nat.mod_eq_of_lt i.isLt)

@[simp] theorem get_ofFn_bankEnergy (xs : List Sample) (i : Fin 8) :
    (Vector.ofFn (bankEnergy xs)).get i = bankEnergy xs i :=
  Vector.getElem_ofFn i.isLt

/-! ### The table's own segments (R133) -/

/-- R133: the margin, by evaluation of the detector on the eight segments. -/
theorem tone_margin : ∀ (k : Sys2Proof.Symbol) (i : Fin 8), i.val ≠ k.toNat →
    8 * (bankEnergy (wave [k]) i).toNat ≤ (bankEnergy (wave [k]) k.toFin).toNat := by
  decide +kernel

/-- R133: the channel of a segment's own symbol is not silent. -/
theorem tone_energy_pos : ∀ k : Sys2Proof.Symbol, 0 < (bankEnergy (wave [k]) k.toFin).toNat := by
  decide +kernel

/-- R133: a margin of 8 over a channel that is not silent decides the slicer. -/
theorem detect_tone (k : Sys2Proof.Symbol) : detect (wave [k]) = k := by
  refine detect_eq (i := k.toFin) (argmax_eq_of_lt fun j hj => ?_)
  have hmargin := tone_margin k j (fun e => hj (Fin.ext e))
  have hpos := tone_energy_pos k
  simp only [get_ofFn_bankEnergy]
  omega

/-! ### Silence (R188) -/

/-- R188: a channel at zero stays at zero on zero samples. -/
theorem laneRun_silence (coef : BitVec 16) (n : Nat) : laneRun coef (List.replicate n 0) = (0, 0) := by
  induction n with
  | zero => rfl
  | succ n ih =>
    have hstep : laneStep coef (0, 0) 0 = (0, 0) := by simp [laneStep, asr14]
    rwa [laneRun, List.replicate_succ, List.foldl_cons, hstep]

theorem bankEnergy_silence (n : Nat) (i : Fin 8) : bankEnergy (List.replicate n 0) i = 0 := by
  rw [bankEnergy, bankQ, laneRun_silence]
  simp [laneEnergy, asr14]

/-- R188: silence is detected as symbol 0. -/
theorem detect_silence (n : Nat) : detect (List.replicate n 0) = 0 :=
  detect_eq (argmax_eq_zero fun i j => by simp only [get_ofFn_bankEnergy, bankEnergy_silence])

end Sys2Proof.Machine

open Sys2Proof Sys2Proof.Machine Sys2Proof.Safety

/-- Settles O30: `detect_tone` and `tone_margin`. -/
theorem toneSegmentsDetectAsThemselves : Obligations.ToneSegmentsDetectAsThemselves :=
  fun k => ⟨detect_tone k, tone_margin k⟩

/-- Settles O41: each of the eight operations reads at its own symbol. -/
theorem toneReadsTheTable : Obligations.ToneReadsTheTable := by
  intro s p hp
  simp only [List.mem_cons, List.not_mem_nil, or_false] at hp
  obtain rfl | rfl | rfl | rfl | rfl | rfl | rfl | rfl := hp
  exacts [toneRead_cases s 0, toneRead_cases s 1, toneRead_cases s 2, toneRead_cases s 3, toneRead_cases s 4,
    toneRead_cases s 5, toneRead_cases s 6, toneRead_cases s 7]
end

section
/-! PROOF. Loopback: what a receiver makes of a whole frame at the start of its buffer with silence behind it (R97, R133,
R188, R203, R221, R223). -/
namespace Sys2Proof.Machine

open Sys2Proof.Safety

/-! ### Chunks of a waveform (R70, R147, R201) -/

theorem wave_cons (y : Sys2Proof.Symbol) (ys : List Sys2Proof.Symbol) : wave (y :: ys) = wave [y] ++ wave ys := by
  simp [wave]

/-- R70, R147: chunk `c` of a waveform at the start of the buffer is the tone of its symbol `c`. -/
theorem chunk_wave {syms : List Sys2Proof.Symbol} (rest : List Sample) {c : Nat} (h : c < syms.length) :
    ((wave syms ++ rest).drop (176 * c)).take 176 = wave [syms[c]] := by
  induction syms generalizing c with
  | nil => cases h
  | cons y ys ih =>
    have hy : (wave [y]).length = 176 := wave_length [y]
    rw [wave_cons, List.append_assoc]
    cases c with
    | zero => exact List.take_left' hy
    | succ c =>
      rw [Nat.mul_succ, Nat.add_comm, ← List.drop_drop, List.drop_left' hy, List.getElem_cons_succ]
      exact ih (Nat.lt_of_succ_lt_succ h)

/-- R70: a whole chunk behind the waveform is silence. -/
theorem chunk_silence {syms : List Sys2Proof.Symbol} {k c : Nat} (hc : syms.length ≤ c)
    (hk : c < syms.length + k / 176) :
    ((wave syms ++ List.replicate k 0).drop (176 * c)).take 176 = List.replicate 176 0 := by
  have hpast : (wave syms).length ≤ 176 * c := by rw [wave_length]; omega
  rw [List.drop_append, List.drop_eq_nil_of_le hpast, List.nil_append, List.drop_replicate, List.take_replicate,
    wave_length]
  congr 1
  omega

/-- R133, R188, R201: a frame inside the window and silence behind it are detected as the frame's symbols and symbols 0. -/
theorem symbolsOf_wave_silence {syms : List Sys2Proof.Symbol} (k : Nat) (h : syms.length ≤ 50) :
    symbolsOf (wave syms ++ List.replicate k 0) =
      syms ++ List.replicate (min (syms.length + k / 176) 50 - syms.length) 0 := by
  have hchunks : (wave syms ++ List.replicate k (0 : Sample)).length / 176 = syms.length + k / 176 := by
    rw [List.length_append, wave_length, List.length_replicate]
    omega
  refine List.ext_getElem (by simp only [symbolsOf, hchunks]; simp; omega) fun c hc _ => ?_
  simp only [symbolsOf, hchunks, List.length_map, List.length_range] at hc
  simp only [symbolsOf, List.getElem_map, List.getElem_range]
  obtain hin | hout := lt_or_ge c syms.length
  · rw [chunk_wave _ hin, detect_tone, List.getElem_append_left hin]
  · rw [chunk_silence hout (by omega), detect_silence, List.getElem_append_right hout, List.getElem_replicate]

/-! ### The payload behind the preamble (R97, R203, R205, R221) -/

theorem findPreamble_frame (rest : List Sys2Proof.Symbol) : findPreamble (Config.preamble ++ rest) = some 0 := by
  rw [Config.preamble, List.cons_append, findPreamble]
  exact if_pos rfl

/-- R97: symbols 0 behind a symbol stream add no set bit to it. -/
theorem symBit_append_zeros (ps : List Sys2Proof.Symbol) (n b : Nat) :
    symBit (ps ++ List.replicate n 0) b = symBit ps b := by
  have hsym : (ps ++ List.replicate n 0).getD (b / 3) 0 = ps.getD (b / 3) 0 := by
    obtain hin | hout := lt_or_ge (b / 3) ps.length
    · exact List.getD_append _ _ _ _ hin
    · rw [List.getD_append_right _ _ _ _ hout, List.getD_eq_default _ _ hout, List.getD_eq_getElem?_getD,
        List.getElem?_getD_replicate_default_eq]
  rw [symBit, symBit, hsym]

/-- R96: past the payload both streams are all zero. -/
theorem symBit_pack_eq (bs : List Byte) (b : Nat) : symBit (pack bs) b = byteBit bs b := by
  obtain hin | hout := lt_or_ge b (3 * paySyms bs.length)
  · exact symBit_pack hin
  · have hbits := (paySyms_bits bs.length).1
    rw [symBit, byteBit, List.getD_eq_default _ _ (by rw [pack_length]; omega), List.getD_eq_default _ _ (by omega)]
    simp

/-- R97, R205: symbols 0 behind a packed payload come back as bytes 0x00 behind it. -/
theorem unpack_pack_zeros (bs : List Byte) (n : Nat) :
    unpack (pack bs ++ List.replicate n 0) =
      bs ++ List.replicate (3 * (paySyms bs.length + n) / 8 - bs.length) 0 := by
  have hlen := (paySyms_bits bs.length).1
  refine List.ext_getElem (by simp; omega) fun m _ _ => ?_
  have hbyte : byteOfBits (symBit (pack bs ++ List.replicate n 0)) m = bs.getD m 0 :=
    byteOfBits_eq fun t _ => by rw [symBit_append_zeros, symBit_pack_eq]
  simp only [unpack, List.getElem_map, List.getElem_range, hbyte]
  obtain hin | hout := lt_or_ge m bs.length
  · rw [List.getElem_append_left hin, List.getD_eq_getElem _ _ hin]
  · rw [List.getElem_append_right hout, List.getElem_replicate, List.getD_eq_default _ _ hout]

/-! ### The candidate of a padded payload (R223) -/

/-- R223: stripping takes away exactly the bytes 0x00 put behind a message that does not end in one. -/
theorem stripNul_append_zeros {m : List Byte} (h : m.getLast? ≠ some 0) (n : Nat) :
    stripNul (m ++ List.replicate n 0) = m := by
  have hzeros : ∀ b ∈ List.replicate n (0 : Byte), (b == 0#8) = true := fun b hb => by
    rw [List.eq_of_mem_replicate hb]; rfl
  have hkept : m.reverse.dropWhile (· == 0#8) = m.reverse := by
    rw [List.dropWhile_eq_self_iff]
    intro hpos hz
    apply h
    rw [List.getLast?_eq_head?_reverse, List.head?_eq_getElem?, List.getElem?_eq_getElem hpos, eq_of_beq hz]
    rfl
  rw [stripNul, List.reverse_append, List.reverse_replicate, List.dropWhile_append_of_pos hzeros, hkept,
    List.reverse_reverse]

/-- R223: a payload whose sender fits the length byte, with bytes 0x00 behind it, splits into the sender and message it was
built from. -/
theorem parsePayload_payload {u m : List Byte} (hu : u.length < 256) (hm : m.getLast? ≠ some 0) {n : Nat}
    (h2 : 2 ≤ (payload u m).length + n) :
    parsePayload (payload u m ++ List.replicate n 0) = .frame u m := by
  have hlen : (BitVec.ofNat 8 u.length).toNat = u.length := Nat.mod_eq_of_lt hu
  have hrest : u ++ m ++ List.replicate n 0 ≠ [] := by
    rw [payload_length] at h2
    refine List.ne_nil_of_length_pos ?_
    simp
    omega
  rw [payload, List.cons_append, parsePayload, hlen, if_neg (by simp), List.append_assoc, List.take_left, List.drop_left,
    stripNul_append_zeros hm]
  simpa using hrest

/-! ### The attempt (R163) -/

/-- R163: an attempt on a frame of at most 50 symbols, with silence behind it to the trigger's 30 chunks, recovers the frame's
sender and message. -/
theorem attempt_frame {u m : List Byte} (name : List Byte) (k : Nat) (hlen : 1 + u.length + m.length ≤ 17)
    (hm : m.getLast? ≠ some 0)
    (hk : 5280 ≤ (wave (frameSyms (payload u m)) ++ List.replicate k (0 : Sample)).length) :
    attempt (wave (frameSyms (payload u m)) ++ List.replicate k 0) name =
      (min 8800 (wave (frameSyms (payload u m)) ++ List.replicate k (0 : Sample)).length,
        if u = name then none else some (u, m)) := by
  have hsyms : (frameSyms (payload u m)).length ≤ 50 := by
    rw [frameSyms_length, payload_length, paySyms]
    omega
  rw [List.length_append, wave_length, frameSyms_length, List.length_replicate] at hk
  have hbits := (paySyms_bits (payload u m).length).1
  rw [attempt, symbolsOf_wave_silence k hsyms, frameSyms_length, frameSyms, List.append_assoc, findPreamble_frame]
  simp only [Nat.zero_add]
  rw [List.drop_left' (show Config.preamble.length = 4 from rfl), unpack_pack_zeros,
    parsePayload_payload (by omega) hm (by omega)]

end Sys2Proof.Machine

open Sys2Proof Sys2Proof.Machine Sys2Proof.Safety

/-- Settles O47: `attempt_frame`. -/
theorem loopbackDeliversTheFrame : Obligations.LoopbackDeliversTheFrame := by
  intro u m name k hlen hm b hk
  have hattempt : attempt b name = _ := attempt_frame name k hlen hm hk
  rw [hattempt]
  exact ⟨fun hne => if_neg hne, fun he => if_pos he, rfl⟩
end

section
/-! PROOF. The modulator: the payload and the symbols of a frame (R141, R143, R144), and the samples of its symbols, which
the DAC takes one by one (R146 to R148). -/
namespace Sys2Proof.Machine

variable {s t : State}

/-! ### Building the payload (R141) -/

section Files
variable {α : Type} {n j : Nat} {xs : List α}

/-- A file that a list was written to from index 0 holds the list's elements first. -/
theorem overwrite_getElem?_of_lt (v : Vector α n) (hx : xs.length ≤ n) (hj : j < xs.length) :
    (overwrite v 0 xs)[j]? = xs[j]? := by
  rw [overwrite_getElem?, if_pos ⟨Nat.zero_le j, by omega, by omega⟩, Nat.sub_zero]

/-- Behind the list the file is as it was (log 21). -/
theorem overwrite_getElem?_of_ge (v : Vector α n) (hj : xs.length ≤ j) : (overwrite v 0 xs)[j]? = v[j]? := by
  rw [overwrite_getElem?, if_neg (by omega)]

end Files

theorem payload_getElem?_sender (u m : List Byte) {j : Nat} (hj : j < u.length) : (payload u m)[1 + j]? = u[j]? := by
  rw [payload, Nat.add_comm, List.getElem?_cons_succ, List.getElem?_append_left hj]

theorem payload_getElem?_message (u m : List Byte) (j : Nat) : (payload u m)[1 + u.length + j]? = m[j]? := by
  rw [payload, Nat.add_assoc, Nat.add_comm, List.getElem?_cons_succ, List.getElem?_append_right (Nat.le_add_right ..),
    Nat.add_sub_cancel_left]

/-- R141: the payload `pay` is written to `TXPAY`. -/
def State.framed (s : State) (pay : List Byte) : State :=
  { s with txPay := overwrite s.txPay 0 pay, txLen := BitVec.ofNat 7 pay.length, txSeq := .pack }

/-- R141: `TX_FRAME` with a payload that fits its register. -/
theorem execTxFrame_fits {name : List Byte} (hn : s.username = some name)
    (hl : (payload name s.txMsg).length ≤ 81) : execTxFrame s = .next (s.framed (payload name s.txMsg)) := by
  simp only [execTxFrame, hn, if_neg (Nat.not_lt.mpr hl)]
  rfl

/-- R141: a username of at most 16 bytes and a message of at most 64 make a payload that fits `TXPAY`. -/
theorem payload_fits {name : List Byte} (hn : s.username = some name) (hu : s.ulen.toNat ≤ 16)
    (hm : s.txMsg.length ≤ 64) : (payload name s.txMsg).length ≤ 81 := by
  rw [payload_length, live_length hn]
  omega

/-- R38: `TXLEN` holds the length of every payload that fits `TXPAY`. -/
theorem framed_txLen {pay : List Byte} (s : State) (hl : pay.length ≤ 81) :
    (s.framed pay).txLen.toNat = pay.length := by
  rw [State.framed, BitVec.toNat_ofNat]
  exact Nat.mod_eq_of_lt (by omega)

/-- R141: the payload that `TX_FRAME` wrote is the one to be transmitted. -/
theorem framed_liveTxPay {pay : List Byte} (s : State) (hl : pay.length ≤ 81) :
    (s.framed pay).liveTxPay = some pay := by
  rw [State.liveTxPay, framed_txLen s hl, live_eq_some hl, State.framed, overwrite_take _ _ hl]

/-! ### Symbols of a frame (R96, R143, R144) -/

/-- R143: the counters stand before the first sample of the frame of the payload `pay`. -/
def State.packed (s : State) (pay : List Byte) : State :=
  { s with txNSym := BitVec.ofNat 8 (frameSyms pay).length, txSymI := 0, txN := 0, txSeq := .play }

/-- R143: `TX_PACK` with a payload in range. -/
theorem execTxPack_live {pay : List Byte} (hp : s.liveTxPay = some pay) : execTxPack s = .next (s.packed pay) := by
  simp only [execTxPack, hp]
  rfl

/-- R143: `TXNSYM` holds the length in symbols of every frame whose payload fits `TXPAY`. -/
theorem packed_txNSym {pay : List Byte} (s : State) (hl : pay.length ≤ 81) :
    (s.packed pay).txNSym.toNat = (frameSyms pay).length := by
  rw [State.packed, frameSyms_length, BitVec.toNat_ofNat, paySyms]
  omega

theorem fsym_eq {pay : List Byte} (hp : s.liveTxPay = some pay) : s.fsym = (frameSyms pay)[s.txSymI.toNat]? := by
  rw [State.fsym, hp, Option.bind_some]

/-- R144: the preamble is 0, 7, 0, 7. -/
theorem frameSyms_preamble (pay : List Byte) {j : Nat} (hj : j < 4) :
    (frameSyms pay)[j]? = some (if j % 2 = 0 then 0 else 7) := by
  obtain rfl | rfl | rfl | rfl : j = 0 ∨ j = 1 ∨ j = 2 ∨ j = 3 := by omega
  all_goals rfl

/-- R96, R143: behind the preamble each symbol takes three bits of the payload. -/
theorem frameSyms_payload {pay : List Byte} {j : Nat} (h4 : 4 ≤ j) (hj : j < 4 + paySyms pay.length) :
    (frameSyms pay)[j]? = some
      (symOfBits (byteBit pay (3 * (j - 4))) (byteBit pay (3 * (j - 4) + 1)) (byteBit pay (3 * (j - 4) + 2))) := by
  have hlt : j - 4 < (pack pay).length := by rw [pack_length]; omega
  rw [frameSyms, List.getElem?_append_right h4]
  change (pack pay)[j - 4]? = _
  rw [List.getElem?_eq_getElem hlt, ← List.getD_eq_getElem _ 0 hlt, pack_getD (by omega)]

/-- R96: a bit of the live part of a file is the file's own, and zero past the live part. -/
theorem byteBit_live {n k : Nat} {v : Vector Byte n} {bs : List Byte} (h : live v k = some bs) (b : Nat) :
    byteBit bs b = (decide (b < 8 * k) && (v[b / 8]?.getD 0).getLsbD (7 - b % 8)) := by
  rw [byteBit, List.getD_eq_getElem?_getD]
  by_cases hb : b < 8 * k
  · rw [live_getElem? h (by omega), decide_eq_true hb, Bool.true_and]
  · rw [List.getElem?_eq_none (by rw [live_length h]; omega), decide_eq_false hb, Bool.false_and]
    exact BitVec.getLsbD_zero

/-! ### One sample (R146, R148) -/

theorem execTxPlay_stopped (hr : s.run = false) : execTxPlay s = .next { s with txSeq := .idle, txBusy := false } := by
  simp [execTxPlay, cutFrame, hr]

theorem execTxPlay_waits (hr : s.run = true) (hd : s.dacReady = false) : execTxPlay s = .next s := by
  simp [execTxPlay, hr, hd]

/-- R146: `TX_PLAY` in a Running core with a ready DAC hands over the sample that the counters select, or is a fault where
they select none (R60). -/
theorem execTxPlay_ready (hr : s.run = true) (hd : s.dacReady = true) :
    (s.dacData = none ∧ ∃ f, execTxPlay s = .fault f) ∨
    ∃ v, s.dacData = some v ∧ execTxPlay s = .next (afterSample (s.dacPush v s.dacLast)) := by
  cases hy : s.fsym with
  | none => exact .inl ⟨by rw [State.dacData, hy]; rfl, _, by simp only [execTxPlay, hr, hd, hy]; rfl⟩
  | some y =>
    have hdata : s.dacData = lutRead y s.txN.toNat := by rw [State.dacData, hy, Option.bind_some]
    rw [hdata]
    cases hv : lutRead y s.txN.toNat with
    | none => exact .inl ⟨rfl, _, by simp only [execTxPlay, hr, hd, hy, hv]; rfl⟩
    | some v => exact .inr ⟨v, rfl, by simp only [execTxPlay, hr, hd, hy, hv]; rfl⟩

theorem execTxPlay_sends {v : Sample} (hr : s.run = true) (hd : s.dacReady = true) (hv : s.dacData = some v) :
    execTxPlay s = .next (afterSample (s.dacPush v s.dacLast)) := by
  obtain ⟨hn, _⟩ | ⟨w, hw, h⟩ := execTxPlay_ready hr hd
  · cases hv.symm.trans hn
  · cases hv.symm.trans hw
    exact h

/-- R146: the pass that hands over the frame's final sample ends the frame. -/
theorem execTxPlay_last {v : Sample} (hr : s.run = true) (hd : s.dacReady = true) (hv : s.dacData = some v)
    (hl : s.dacLast = true) :
    execTxPlay s = .next { s with dacOut := (v, true) :: s.dacOut, txBusy := false, txSeq := .idle } := by
  rw [execTxPlay_sends hr hd hv, hl]
  exact congrArg _ (if_pos hl)

/-- R146: the last sample of a symbol that is not the frame's last one. -/
theorem execTxPlay_nextSymbol {v : Sample} (hr : s.run = true) (hd : s.dacReady = true) (hv : s.dacData = some v)
    (hl : s.dacLast = false) (hn : s.txN.toNat = 175) :
    execTxPlay s = .next { s with dacOut := (v, false) :: s.dacOut, txSymI := s.txSymI + 1, txN := 0 } := by
  rw [execTxPlay_sends hr hd hv, hl]
  exact congrArg _ ((if_neg (Bool.eq_false_iff.mp hl)).trans (if_pos hn))

/-- R146: a sample inside a symbol. -/
theorem execTxPlay_nextSample {v : Sample} (hr : s.run = true) (hd : s.dacReady = true) (hv : s.dacData = some v)
    (hn : s.txN.toNat < 175) :
    execTxPlay s = .next { s with dacOut := (v, false) :: s.dacOut, txN := s.txN + 1 } := by
  have hl : s.dacLast = false := decide_eq_false fun h => hn.ne h.2
  rw [execTxPlay_sends hr hd hv, hl]
  exact congrArg _ ((if_neg (Bool.eq_false_iff.mp hl)).trans (if_neg hn.ne))

/-! ### Who drives the DAC (R64, R146, R151) -/

/-- R64, R146: `TX_PLAY` leaves the DAC's history alone, or adds the offered sample with its `dac_last`. -/
theorem execTxPlay_dacOut (h : execTxPlay s = .next t) :
    t.dacOut = s.dacOut ∨ (s.run = true ∧ s.dacReady = true ∧
      ∃ v, s.dacData = some v ∧ t.dacOut = (v, s.dacLast) :: s.dacOut) := by
  obtain ⟨_, rfl⟩ | ⟨_, _, rfl⟩ | ⟨hr, hd, _⟩ := execTxPlay_cases h
  · exact .inl rfl
  · exact .inl rfl
  · obtain ⟨_, f, hf⟩ | ⟨v, hv, hn⟩ := execTxPlay_ready hr hd
    · cases h.symm.trans hf
    · cases h.symm.trans hn
      refine .inr ⟨hr, hd, v, hv, ?_⟩
      obtain ⟨_, e⟩ | ⟨_, _, e⟩ | ⟨_, _, e⟩ := afterSample_cases (s.dacPush v s.dacLast) <;> rw [e] <;> rfl

theorem CommandEffect.dacOut_eq {i : Instr} (h : CommandEffect s i t) : t.dacOut = s.dacOut := by
  cases h <;> rfl

/-- R64, R151: a step that changes the DAC's history ran `TX_PLAY` and added the sample on the pins. -/
theorem step_dacOut (h : step s = .next t) :
    t.dacOut = s.dacOut ∨ (s.run = true ∧ s.dacReady = true ∧ s.txSeq = .play ∧ (∃ u, fetch s = .run .txPlay u) ∧
      ∃ v, s.dacDataPin = some v ∧ t.dacOut = (v, s.dacLastPin) :: s.dacOut) := by
  cases step_effect h with
  | reset _ ht => exact .inl (by rw [ht, envMove_frame, moveTaken_frame]; rfl)
  | kept k => exact .inl k.dacOut
  | command _ _ _ _ he => exact .inl he.dacOut_eq
  | badLen _ _ _ ht => exact .inl (by rw [ht]; rfl)
  | badCmd _ _ _ ht => exact .inl (by rw [ht]; rfl)
  | frame _ _ he => exact .inl (by rw [execTxFrame_frame he])
  | pack _ _ he => exact .inl (by rw [execTxPack_frame he])
  | play hrst hq hf he =>
    obtain e | ⟨hr, hd, v, hv, e⟩ := execTxPlay_dacOut he
    · exact .inl e
    · have hpin : s.dacLastPin = s.dacLast := by simp [State.dacLastPin, State.dacValid, hrst, hq]
      exact .inr ⟨hr, hd, hq, ⟨_, hf⟩, v, (dacDataPin_play hrst hq).trans hv, by rw [e, hpin]; rfl⟩

/-! ### A whole frame (R146, R147) -/

/-- R132, R147: sample `n` of symbol `i` in a waveform is the table's. -/
theorem wave_getElem? (syms : List Sys2Proof.Symbol) (i : Nat) {n : Nat} (hn : n < 176) :
    (wave syms)[176 * i + n]? = syms[i]?.bind fun y => lutRead y n := by
  obtain hi | hi := lt_or_ge i syms.length
  · have hread : lutRead syms[i] n = (wave [syms[i]])[n]? := by
      rw [lutRead, if_pos hn, wave, List.flatMap_singleton, List.getElem?_take_of_lt hn, List.getElem?_drop]
    rw [List.getElem?_eq_getElem hi, Option.bind_some, hread, ← chunk_wave [] hi, List.append_nil,
      List.getElem?_take_of_lt hn, List.getElem?_drop]
  · rw [List.getElem?_eq_none hi, Option.bind_none, List.getElem?_eq_none]
    rw [wave_length]
    omega

/-- How many samples of the frame stand before the one that the counters select (R146). -/
def State.playPos (s : State) : Nat := 176 * s.txSymI.toNat + s.txN.toNat

/-- A Running core out of reset plays the frame of the payload `pay` to a ready DAC. -/
structure Playing (s : State) (pay : List Byte) : Prop where
  out : s.rst = false
  running : s.run = true
  ready : s.dacReady = true
  seq : s.txSeq = .play
  payload : s.liveTxPay = some pay
  nsym : s.txNSym.toNat = (frameSyms pay).length
  txN : s.txN.toNat ≤ 175

variable {pay : List Byte} {ms : List Move} {v : Sample}

/-- R146, R147: the offered sample is the one of the waveform at the place that the counters select. -/
theorem Playing.dacData_eq (h : Playing s pay) : s.dacData = (wave (frameSyms pay))[s.playPos]? := by
  rw [State.dacData, fsym_eq h.payload, State.playPos, wave_getElem? _ _ (Nat.lt_succ_of_le h.txN)]

/-- R146: `dac_last` stands with the last sample of the waveform. -/
theorem Playing.dacLast_eq (h : Playing s pay) :
    s.dacLast = decide (s.playPos + 1 = (wave (frameSyms pay)).length) := by
  have hn := h.txN
  rw [State.dacLast, State.playPos, wave_length, ← h.nsym]
  exact decide_eq_decide.mpr (by omega)

/-- The schedule has no part in what is played. -/
theorem Playing.rescheduled (h : Playing s pay) (ms : List Move) : Playing { s with moves := ms } pay :=
  { h with }

/-- R24, R101: out of reset a turn of the transmit sequencer runs the operation of its state. -/
theorem step_tx (hm : s.moves = .tx :: ms) (hr : s.rst = false) :
    step s = runFetched (activeMove .tx { s with moves := ms }) :=
  step_scheduled hm (buildsFirst_not_command hm rfl) (by simp [State.resets, hr])

/-- R141: the step that builds the payload. -/
theorem step_tx_frame {name : List Byte} (hm : s.moves = .tx :: ms) (hr : s.rst = false) (hq : s.txSeq = .frame)
    (hn : s.username = some name) (hl : (payload name s.txMsg).length ≤ 81) :
    step s = .next (({ s with moves := ms } : State).framed (payload name s.txMsg)) := by
  rw [step_tx hm hr, activeMove_tx, hq]
  exact execTxFrame_fits (s := { s with moves := ms }) hn hl

/-- R143: the step that sets the counters. -/
theorem step_tx_pack (hm : s.moves = .tx :: ms) (hr : s.rst = false) (hq : s.txSeq = .pack)
    (hp : s.liveTxPay = some pay) : step s = .next (({ s with moves := ms } : State).packed pay) := by
  rw [step_tx hm hr, activeMove_tx, hq]
  exact execTxPack_live (s := { s with moves := ms }) hp

theorem step_tx_play (hm : s.moves = .tx :: ms) (h : Playing s pay) : step s = execTxPlay { s with moves := ms } := by
  rw [step_tx hm h.out, activeMove_tx, h.seq]
  rfl

/-- R146: the step that plays the last sample of the waveform. -/
theorem Playing.step_last (h : Playing s pay) (hm : s.moves = .tx :: ms)
    (hv : (wave (frameSyms pay))[s.playPos]? = some v) (hl : s.playPos + 1 = (wave (frameSyms pay)).length) :
    step s = .next { s with moves := ms, dacOut := (v, true) :: s.dacOut, txBusy := false, txSeq := .idle } :=
  (step_tx_play hm h).trans (execTxPlay_last (s := { s with moves := ms }) h.running h.ready
    ((h.rescheduled ms).dacData_eq.trans hv) ((h.rescheduled ms).dacLast_eq.trans (decide_eq_true hl)))

/-- R146: the step that plays an earlier sample moves the counters on by one. -/
theorem Playing.step_more (h : Playing s pay) (hm : s.moves = .tx :: ms)
    (hv : (wave (frameSyms pay))[s.playPos]? = some v) (hl : s.playPos + 1 ≠ (wave (frameSyms pay)).length) :
    ∃ i n, step s = .next { s with moves := ms, dacOut := (v, false) :: s.dacOut, txSymI := i, txN := n } ∧
      176 * i.toNat + n.toNat = s.playPos + 1 ∧ n.toNat ≤ 175 := by
  have hdata : ({ s with moves := ms } : State).dacData = some v := (h.rescheduled ms).dacData_eq.trans hv
  rw [step_tx_play hm h]
  obtain hn | hn := Nat.lt_or_eq_of_le h.txN
  · have hnext : (s.txN + 1).toNat = s.txN.toNat + 1 := by bv_omega
    exact ⟨s.txSymI, s.txN + 1, execTxPlay_nextSample (s := { s with moves := ms }) h.running h.ready hdata hn,
      by rw [hnext, State.playPos]; rfl, by omega⟩
  · have hlast : ({ s with moves := ms } : State).dacLast = false :=
      (h.rescheduled ms).dacLast_eq.trans (decide_eq_false hl)
    have hnext : (s.txSymI + 1).toNat = s.txSymI.toNat + 1 := by
      have hin := (List.getElem?_eq_some_iff.mp hv).1
      rw [wave_length, ← h.nsym, State.playPos] at hin
      bv_omega
    exact ⟨s.txSymI + 1, 0,
      execTxPlay_nextSymbol (s := { s with moves := ms }) h.running h.ready hdata hlast hn,
      by rw [hnext, State.playPos, hn]; exact Nat.mul_succ .., by decide⟩

/-- R146: samples, each with its `dac_last`. -/
def markFinal (w : List Sample) : List (Sample × Bool) := w.mapIdx fun j v => (v, decide (j + 1 = w.length))

theorem markFinal_cons_cons (v w : Sample) (rest : List Sample) :
    markFinal (v :: w :: rest) = (v, false) :: markFinal (w :: rest) := by
  simp [markFinal, List.mapIdx_cons]

/-- R146, R147: from any point of a frame, the turns left hand over the samples left, the last one marked. -/
theorem run_plays_rest (rest : List Sample) (s : State) (h : Playing s pay)
    (hrest : (wave (frameSyms pay)).drop s.playPos = rest) (hne : rest ≠ [])
    (hm : s.moves = List.replicate rest.length .tx) :
    ∃ i n, Host.Core.run Sys2Proof.core rest.length s = .next { s with
      moves := [], txSymI := i, txN := n, txSeq := .idle, txBusy := false
      dacOut := (markFinal rest).reverse ++ s.dacOut } := by
  induction rest generalizing s with
  | nil => exact absurd rfl hne
  | cons v rest ih =>
    have hv : (wave (frameSyms pay))[s.playPos]? = some v := by
      rw [← List.head?_drop, hrest, List.head?_cons]
    have hcount : (wave (frameSyms pay)).length = s.playPos + (rest.length + 1) := by
      have := congrArg List.length hrest
      rw [List.length_drop, List.length_cons] at this
      omega
    cases rest with
    | nil =>
      refine ⟨s.txSymI, s.txN, ?_⟩
      rw [List.length_singleton, run_succ_of_step 0 (h.step_last hm hv hcount.symm)]
      rfl
    | cons w rest =>
      have hmore : s.playPos + 1 ≠ (wave (frameSyms pay)).length := by
        rw [hcount, List.length_cons]
        omega
      obtain ⟨i, n, hstep, hpos, hn⟩ := h.step_more hm hv hmore
      have hdrop : (wave (frameSyms pay)).drop (176 * i.toNat + n.toNat) = w :: rest := by
        rw [hpos, ← List.drop_drop, hrest, List.drop_one, List.tail_cons]
      rw [List.length_cons, run_succ_of_step _ hstep]
      obtain ⟨i', n', hrun⟩ := ih
        { s with
          moves := List.replicate (w :: rest).length .tx, txSymI := i, txN := n, dacOut := (v, false) :: s.dacOut }
        { h with txN := hn } hdrop (List.cons_ne_nil _ _) rfl
      refine ⟨i', n', hrun.trans ?_⟩
      simp [markFinal_cons_cons]

theorem wave_frame_ne_nil (pay : List Byte) : wave (frameSyms pay) ≠ [] := by
  refine List.ne_nil_of_length_pos ?_
  rw [wave_length, frameSyms_length]
  omega

/-- R143, R146, R147: from `TX_PACK`, one turn sets the counters and one for each sample plays the frame. -/
theorem run_plays_packed {w : List Sample} (hr : s.rst = false) (hq : s.txSeq = .pack) (hrun : s.run = true)
    (hd : s.dacReady = true) (hp : s.liveTxPay = some pay) (hl : pay.length ≤ 81) (hw : wave (frameSyms pay) = w)
    (hm : s.moves = .tx :: List.replicate w.length .tx) :
    ∃ i n, Host.Core.run Sys2Proof.core (w.length + 1) s = .next { s.packed pay with
      moves := [], txSymI := i, txN := n, txSeq := .idle, txBusy := false
      dacOut := (markFinal w).reverse ++ s.dacOut } := by
  have hplaying : Playing (({ s with moves := List.replicate w.length .tx } : State).packed pay) pay :=
    ⟨hr, hrun, hd, rfl, hp, packed_txNSym _ hl, Nat.zero_le _⟩
  rw [run_succ_of_step _ (step_tx_pack hm hr hq hp)]
  exact run_plays_rest w _ hplaying hw (hw ▸ wave_frame_ne_nil pay) rfl

/-- R141, R146, R147: from `TX_FRAME`, one turn more builds the payload of that frame. -/
theorem run_plays_frame {name : List Byte} {w : List Sample} (hr : s.rst = false) (hq : s.txSeq = .frame)
    (hrun : s.run = true) (hd : s.dacReady = true) (hn : s.username = some name)
    (hl : (payload name s.txMsg).length ≤ 81) (hw : wave (frameSyms (payload name s.txMsg)) = w)
    (hm : s.moves = .tx :: .tx :: List.replicate w.length .tx) :
    ∃ i n, Host.Core.run Sys2Proof.core (w.length + 2) s =
      .next { (s.framed (payload name s.txMsg)).packed (payload name s.txMsg) with
        moves := [], txSymI := i, txN := n, txSeq := .idle, txBusy := false
        dacOut := (markFinal w).reverse ++ s.dacOut } := by
  rw [run_succ_of_step _ (step_tx_frame hm hr hq hn hl)]
  exact run_plays_packed (s := ({ s with moves := _ } : State).framed _) hr rfl hrun hd (framed_liveTxPay _ hl) hl hw rfl

end Sys2Proof.Machine

open Sys2Proof Sys2Proof.Machine Sys2Proof.Safety

/-- Settles O42: `execTxFrame_fits`, and each part of the payload at its place in `TXPAY`. -/
theorem frameBuildsThePayload : Obligations.FrameBuildsThePayload := by
  intro s hu hm
  have hn : s.username = some (s.user.toList.take s.ulen.toNat) := live_eq_some hu
  have hname := live_length hn
  have hbyte : ∀ j, j < s.ulen.toNat → (s.user.toList.take s.ulen.toNat)[j]? = s.user[j]? := fun _ => live_getElem? hn
  have hfits := payload_fits hn hu hm
  have hexec := execTxFrame_fits hn hfits
  generalize s.user.toList.take s.ulen.toNat = name at hname hbyte hfits hexec
  have hlen := payload_length name s.txMsg
  have hwritten {j : Nat} (hj : j < 1 + name.length + s.txMsg.length) :=
    overwrite_getElem?_of_lt s.txPay hfits (hj.trans_eq hlen.symm)
  intro u
  refine ⟨_, hexec, rfl, ?_, ?_, fun j hj => ?_, fun j hj => ?_, fun j hj => ?_⟩
  · exact (framed_txLen s hfits).trans (by omega)
  · exact (hwritten (by omega)).trans (congrArg (fun k => some (BitVec.ofNat 8 k)) hname)
  · rw [← hbyte j hj, ← payload_getElem?_sender name s.txMsg (by omega)]
    exact hwritten (by omega)
  · rw [← payload_getElem?_message name s.txMsg j, hname]
    exact hwritten (by omega)
  · exact overwrite_getElem?_of_ge s.txPay (by omega)

/-- Settles O43: `execTxPack_live`. -/
theorem packSetsTheCounters : Obligations.PackSetsTheCounters := by
  intro s hl
  have hp : s.liveTxPay = some (s.txPay.toList.take s.txLen.toNat) := live_eq_some hl
  have hlen := live_length hp
  refine ⟨_, execTxPack_live hp, rfl, (packed_txNSym s (hlen.trans_le hl)).trans ?_⟩
  rw [frameSyms_length, hlen, paySyms]

/-- Settles O44: `frameSyms_preamble`, `frameSyms_payload` with `byteBit_live` for its bits, and `fsym_eq_none`. -/
theorem frameSymbolIsItsBits : Obligations.FrameSymbolIsItsBits := by
  intro s hl j bit
  have hp : s.liveTxPay = some (s.txPay.toList.take s.txLen.toNat) := live_eq_some hl
  have hlen := live_length hp
  have hbit : ∀ b, byteBit (s.txPay.toList.take s.txLen.toNat) b = bit b := byteBit_live hp
  refine ⟨fun hj => (fsym_eq hp).trans (frameSyms_preamble _ hj), fun h4 hj => ?_, fun hj => fsym_eq_none (.inr hj)⟩
  refine ⟨_, (fsym_eq hp).trans (frameSyms_payload h4 (by rw [hlen]; exact hj)), ?_⟩
  simp only [← hbit]
  exact symOfBits_getLsbD _ _ _

/-- Settles O45: the cut, the wait, and the three ways in which the counters go on. -/
theorem playHandsOverOneSample : Obligations.PlayHandsOverOneSample := by
  refine fun s => ⟨execTxPlay_stopped, execTxPlay_waits, fun hr hd hl hi hn => ?_⟩
  obtain ⟨y, hy⟩ := exists_fsym hl hi
  obtain ⟨v, hread, hentry⟩ := lutRead_eq_some (sym := y) (Nat.lt_succ_of_le hn)
  have hv : s.dacData = some v := by rw [State.dacData, hy, Option.bind_some, hread]
  exact ⟨y, v, hy, hentry,
    fun hi hn => execTxPlay_last hr hd hv (decide_eq_true ⟨hi, hn⟩),
    fun hi hn => execTxPlay_nextSymbol hr hd hv (decide_eq_false fun h => hi h.1) hn,
    execTxPlay_nextSample hr hd hv⟩

/-- Settles O46: `run_plays_frame`. -/
theorem wholeFrameIsItsWaveform : Obligations.WholeFrameIsItsWaveform := by
  intro s hr hq hrun hd hu hm
  have hn : s.username = some (s.user.toList.take s.ulen.toNat) := live_eq_some hu
  have hlen : (wave (frameSyms (payload (s.user.toList.take s.ulen.toNat) s.txMsg))).length =
      176 * (4 + (8 * (1 + s.ulen.toNat + s.txMsg.length) + 2) / 3) := by
    rw [wave_length, frameSyms_length, payload_length, live_length hn, paySyms]
  generalize hw : wave (frameSyms (payload (s.user.toList.take s.ulen.toNat) s.txMsg)) = w at hlen
  obtain ⟨_, _, h⟩ := run_plays_frame (s := { s with moves := .tx :: .tx :: List.replicate w.length .tx })
    hr hq hrun hd hn (payload_fits hn hu hm) hw rfl
  exact ⟨hlen, _, by rw [runMoves, Nat.add_comm]; exact h, rfl, rfl⟩

/-- Settles O57: `step_dacOut`. -/
theorem onlyPlayDrivesTheDac : Obligations.OnlyPlayDrivesTheDac := by
  intro s t h hne
  obtain e | ⟨hr, hd, hq, hf, v, hv, e⟩ := step_dacOut h
  · exact absurd e hne
  · exact ⟨hr, hd, hq, hf, v, s.dacLastPin, e, hv, rfl⟩
end

section
/-! PROOF. The capture loop: `RX_APPEND` of a burst that fits (R161, R162, R168), and `RX_TRIM` (R166). -/
namespace Sys2Proof.Safety

open Sys2Proof.Machine

variable {s t : State}

/-! ### The append (R161, R162, R168) -/

/-- R161, R63: a burst of at most `RD_MAX` samples that the buffer has room for is taken. -/
theorem execRxAppend_takes (hd : s.adcData ≠ []) (hl : s.burst + s.adcData.length ≤ s.rdMax)
    (hb : s.blen + s.adcData.length ≤ s.bufCap) :
    execRxAppend s = .next (afterAppend (s.append s.adcData) s.adcData.length).adcTaken := by
  unfold execRxAppend
  split
  · next he => exact absurd he hd
  · next he =>
    rw [he] at hl hb ⊢
    rw [if_neg (Nat.not_lt.mpr hl), if_neg (Nat.not_lt.mpr hb)]

theorem afterAppend_stopped (hr : s.run = false) (n : Nat) :
    afterAppend s n = { s with rxSeq := .off, burst := 0 } := by
  simp [afterAppend, hr]

/-- R44: without `adc_last` the burst stays open. -/
theorem afterAppend_open (hr : s.run = true) (hl : s.adcLast = false) (n : Nat) :
    afterAppend s n = { s with burst := s.burst + n } := by
  simp [afterAppend, hr, hl]

/-- R162: from 5280 samples on a complete burst starts an attempt. -/
theorem afterAppend_triggers (hr : s.run = true) (hl : s.adcLast = true) (hb : 5280 ≤ s.blen) (n : Nat) :
    afterAppend s n = { s with rxSeq := .goertzel, cidx := 0, scnt := 0, burst := 0 } := by
  have ht : triggers s.blen = true := decide_eq_true hb
  simp [afterAppend, hr, hl, ht]

theorem afterAppend_ends (hr : s.run = true) (hl : s.adcLast = true) (hb : s.blen < 5280) (n : Nat) :
    afterAppend s n = { s with rxSeq := .capture, burst := 0 } := by
  have ht : triggers s.blen = false := decide_eq_false (Nat.not_le.mpr hb)
  simp [afterAppend, hr, hl, ht]

/-! ### The trim (R166) -/

/-- R166: a trim leaves for where `RUN` says. -/
theorem execRxTrim_eq (s : State) :
    execRxTrim s = .next ((trimmed s).goRx (if s.run then .capture else .off)) := by
  unfold execRxTrim
  split_ifs <;> rfl

theorem trimmed_buf (s : State) :
    (trimmed s).buf = if 17600 < s.buf.length then s.buf.drop (s.buf.length - 8800) else s.buf := by
  simp [trimmed, apply_ite State.buf]

end Sys2Proof.Safety

open Sys2Proof Sys2Proof.Machine Sys2Proof.Safety

/-- Settles O20: the four ways on from an append. -/
theorem appendStoresTheBurst : Obligations.AppendStoresTheBurst := by
  intro s hd hl hb
  have htake : exec .rxAppend s = _ := execRxAppend_takes hd hl hb
  have hlen : (s.append s.adcData).blen = s.blen + s.adcData.length := List.length_append
  rw [htake]
  refine ⟨fun hr => ?_, fun hr hlast => ?_, fun hr hlast hfull => ?_, fun hr hlast hshort => ?_⟩
  · rw [afterAppend_stopped (s := s.append s.adcData) hr]
    rfl
  · rw [afterAppend_open (s := s.append s.adcData) hr hlast]
    rfl
  · rw [afterAppend_triggers (s := s.append s.adcData) hr hlast (hlen ▸ hfull)]
    rfl
  · rw [afterAppend_ends (s := s.append s.adcData) hr hlast (hlen ▸ hshort)]
    rfl

/-- Settles O22: what `trimmed` leaves is the newest part of the buffer. -/
theorem trimKeepsTheNewestSamples : Obligations.TrimKeepsTheNewestSamples := by
  intro s
  refine ⟨_, execRxTrim_eq s, ?_, fun hlong => ⟨?_, ?_⟩, fun hshort => ?_, fun hr => ?_, fun hr => ?_⟩
  · rw [trimmed_frame]
    rfl
  · rw [State.blen] at hlong ⊢
    rw [State.goRx_buf, trimmed_buf, if_pos hlong, List.length_drop]
    omega
  · obtain ⟨old, hold⟩ := trimmed_buf_suffix s
    exact ⟨old, hold.symm⟩
  · exact (trimmed_buf s).trans (if_neg (Nat.not_lt.mpr hshort))
  · rw [hr]
    rfl
  · rw [hr]
    rfl
end

section
/-! PROOF. The receive sequencer's own turns bring it to rest, in a bounded number of them (R168, R169). -/
namespace Sys2Proof.Safety

open Sys2Proof.Machine Host

variable {s t u : State} {ms : List Move}

/-! ### Turns of the receive sequencer (R168) -/

/-- R23, R101: out of reset a turn of the receive sequencer runs the operation of its state. -/
theorem step_rx (hm : s.moves = .rx :: ms) (hr : s.rst = false) :
    step s = runFetched (activeMove .rx { s with moves := ms }) :=
  step_scheduled hm (buildsFirst_not_command hm rfl) (by simp [State.resets, hr])

/-- R76: a turn of the receive sequencer writes the receive side only. -/
theorem rxTurn_frame (h : runFetched (activeMove .rx s) = .next t) : ReceiveFrame s t := by
  rw [activeMove, runCode] at h
  split at h
  · next i hi => exact exec_receive_frame (mem_receiveOps_of_decode hi) h
  · cases h
    rfl

theorem receiveFrame_trans (h : ReceiveFrame s u) (h' : ReceiveFrame u t) : ReceiveFrame s t := by
  rw [ReceiveFrame, h', h]

/-- R168: no operation of an attempt is ahead exactly where the sequencer is off or captures. -/
theorem rxWork_eq_zero_iff : rxWork s = 0 ↔ s.rxSeq = .off ∨ s.rxSeq = .capture := by
  unfold rxWork
  cases s.rxSeq <;> simp

/-- R168: a core that does not wait for the event register and has no turn of its own to take rests. -/
theorem rxWork_eq_zero_of_not_busy (hb : s.rxBusy = false)
    (hd : s.rxSeq = .deliver → (s.evtValid && s.run) = false) : rxWork s = 0 := by
  rw [rxWork_eq_zero_iff]
  unfold State.rxBusy at hb
  cases hq : s.rxSeq <;> simp_all

/-- R290: with no sample on the port a turn in `RX_CAPTURE` waits. -/
theorem captureTurn_waits (h : CoreInv s) (hq : s.rxSeq = .capture) :
    runFetched (activeMove .rx s) = .next { s with adcLast := false } := by
  have ha : activeMove .rx s = .run .rxAppend s := by rw [activeMove_rx, hq]
  rw [ha]
  exact (execRxAppend_empty h.adcData).trans (congrArg _ (if_pos (h.capturing hq)))

/-- Turns beyond the attempt leave the receive sequencer at rest. -/
theorem rxTurn_rests (h : CoreInv s) (hw : rxWork s = 0) (ht : runFetched (activeMove .rx s) = .next t) :
    rxWork t = 0 := by
  obtain hq | hq := rxWork_eq_zero_iff.mp hw
  · rw [activeMove_rx, hq] at ht
    cases ht
    exact hw
  · rw [captureTurn_waits h hq] at ht
    cases ht
    exact hw

/-- What the receive sequencer's turns keep, and where none of them waits for the event register. -/
structure TurnInvariant (P : State → Prop) : Prop where
  keeps : ∀ {s t : State}, CoreInv s → P s → runFetched (activeMove .rx s) = .next t → P t
  rescheduled : ∀ {s : State} (ms : List Move), P s → P { s with moves := ms }
  goes : ∀ {s : State}, P s → s.rxSeq = .deliver → (s.evtValid && s.run) = false

/-- R168: a turn leaves less of the attempt ahead, or nothing was ahead. -/
theorem TurnInvariant.rxWork_le {P : State → Prop} (hP : TurnInvariant P) (h : CoreInv s) (hp : P s) {n : Nat}
    (hw : rxWork s ≤ n + 1) (ht : runFetched (activeMove .rx s) = .next t) : rxWork t ≤ n := by
  cases hb : s.rxBusy with
  | true => exact Nat.le_of_lt_succ ((rxTurn_work hb ht).1.trans_le hw)
  | false =>
    rw [rxTurn_rests h (rxWork_eq_zero_of_not_busy hb (hP.goes hp)) ht]
    exact Nat.zero_le n

/-- R168, R169: as many turns as there are operations of the attempt ahead bring the receive sequencer to rest, and the
turns beyond them leave it there. -/
theorem run_rx_rests {P : State → Prop} (hP : TurnInvariant P) (n : Nat) (s : State) (h : CoreInv s)
    (hr : s.rst = false) (hp : P s) (hw : rxWork s ≤ n) (hm : s.moves = List.replicate n .rx) :
    ∃ t, Core.run Sys2Proof.core n s = .next t ∧ CoreInv t ∧ P t ∧ rxWork t = 0 ∧
      ReceiveFrame { s with moves := [] } t := by
  induction n generalizing s with
  | zero =>
    have e : s = { s with moves := [] } := congrArg (fun ms => { s with moves := ms }) hm
    exact ⟨s, rfl, h, hp, Nat.le_zero.mp hw, e ▸ rfl⟩
  | succ n ih =>
    have hs : CoreInv { s with moves := List.replicate n .rx } := h.rescheduled _ s.tick
    have hps := hP.rescheduled (List.replicate n .rx) hp
    obtain ⟨u, hu, hinv⟩ := rxTurn_safe hs hr
    have hf := rxTurn_frame hu
    obtain ⟨t, ht, htinv, htp, htw, htf⟩ :=
      ih u hinv (by rw [hf]; exact hr) (hP.keeps hs hps hu) (hP.rxWork_le hs hps hw hu) (by rw [hf])
    refine ⟨t, ?_, htinv, htp, htw, receiveFrame_trans ?_ htf⟩
    · rw [run_succ_of_step n ((step_rx hm hr).trans hu), ht]
    · exact congrArg (fun v : State => { v with moves := [] }) hf

/-- R169: a Stopped core waits for nobody. -/
theorem turnInvariant_stopped : TurnInvariant fun s => s.run = false where
  keeps := fun _ hs ht => by rw [rxTurn_frame ht]; exact hs
  rescheduled := fun _ hs => hs
  goes := fun hs _ => by rw [hs, Bool.and_false]

/-- R169, R303: where a Stopped core's receive sequencer rests it is off. -/
theorem off_of_stopped (h : CoreInv s) (hr : s.run = false) (hw : rxWork s = 0) : s.rxSeq = .off := by
  obtain hq | hq := rxWork_eq_zero_iff.mp hw
  · exact hq
  · simp [h.capturing hq] at hr

end Sys2Proof.Safety

open Sys2Proof Sys2Proof.Machine Sys2Proof.Safety

/-- Settles O24: `run_rx_rests` for a Stopped core. -/
theorem windDownReachesOff : Obligations.WindDownReachesOff := by
  intro s h hr hrun
  obtain ⟨t, ht, htinv, hstop, hw, hf⟩ := run_rx_rests turnInvariant_stopped 107
    { s with moves := List.replicate 107 .rx } (h.rescheduled _ s.tick) hr hrun (rxWork_le _) rfl
  have hoff := off_of_stopped htinv hstop hw
  have hrst : t.rst = false := by rw [hf]; exact hr
  exact ⟨107, t, le_rfl, ht, hoff, hstop, by simp [State.cmdReady, hrst, hoff]⟩
end

section
/-! PROOF. The attempt that the receive sequencer's turns make, phase by phase, and the iteration as one function of the
buffer, the burst and the username (R163, R167). -/
namespace Sys2Proof.Safety

open Sys2Proof.Machine Host

variable {s t : State} {ev : Record} {b : List Sample} {u : List Byte}

/-! ### The parts of the attempt function (R163, R167) -/

/-- R163, R201: the symbols detected in the first `n` chunks. -/
def chunkSyms (b : List Sample) (n : Nat) : List Sys2Proof.Symbol :=
  (List.range n).map fun c => detect ((b.drop (176 * c)).take 176)

theorem symbolsOf_eq (b : List Sample) : symbolsOf b = chunkSyms b (numChunks b.length) := rfl

theorem chunkSyms_succ (b : List Sample) (n : Nat) :
    chunkSyms b (n + 1) = chunkSyms b n ++ [detect ((b.drop (176 * n)).take 176)] := by
  simp [chunkSyms, List.range_succ]

theorem symbolsOf_length_le (b : List Sample) : (symbolsOf b).length ≤ 50 := by
  simp [symbolsOf]

/-- R205, R221: the payload bytes behind a preamble at `i`. -/
def payloadAt (b : List Sample) (i : Nat) : List Byte := unpack (payWindow (symbolsOf b) i)

/-- R36: a payload fits `PBUF`. -/
theorem payloadAt_length_le (b : List Sample) (i : Nat) : (payloadAt b i).length ≤ 17 := by
  have := symbolsOf_length_le b
  rw [payloadAt, unpack_length, payWindow, List.length_drop]
  omega

theorem attempt_unmatched (h : findPreamble (symbolsOf b) = none) (u : List Byte) : attempt b u = (0, none) := by
  rw [attempt, h]

theorem attempt_advance {i : Nat} (h : findPreamble (symbolsOf b) = some i) (u : List Byte) :
    (attempt b u).1 = advanceLen i b.length := by
  rw [attempt, h]
  rfl

theorem attempt_discard {i : Nat} {why : Discard} (h : findPreamble (symbolsOf b) = some i)
    (hf : parsePayload (payloadAt b i) = .discard why) (u : List Byte) : (attempt b u).2 = none := by
  rw [payloadAt, payWindow] at hf
  simp only [attempt, h, hf]

theorem attempt_frame_at {i : Nat} {snd msg : List Byte} (h : findPreamble (symbolsOf b) = some i)
    (hf : parsePayload (payloadAt b i) = .frame snd msg) (u : List Byte) :
    (attempt b u).2 = if snd = u then none else some (snd, msg) := by
  rw [payloadAt, payWindow] at hf
  simp only [attempt, h, hf]

/-- R166: what a trim leaves of a buffer. -/
def trimSamples (b : List Sample) : List Sample := if 17600 < b.length then b.drop (b.length - 8800) else b

/-- R167: an iteration from 5280 samples on is an attempt, an advance and a trim. -/
theorem iteration_attempt {r : List Sample} (h : 5280 ≤ (b ++ r).length) (u : List Byte) :
    iteration b r u = (trimSamples ((b ++ r).drop (attempt (b ++ r) u).1), (attempt (b ++ r) u).2) :=
  if_neg (Nat.not_lt.mpr h)

theorem iteration_short {r : List Sample} (h : (b ++ r).length < 5280) (u : List Byte) :
    iteration b r u = (b ++ r, none) :=
  if_pos h

/-! ### Where an attempt stands -/

/-- The event register holds the pair that the attempt delivered, or is free with the record it had. -/
def Delivered (ev : Record) (s : State) : Option (List Byte × List Byte) → Prop
  | none => s.evtValid = false ∧ s.ev = ev
  | some (snd, msg) => s.evtValid = true ∧ s.evi = 0 ∧ s.ev.sender = snd ∧ s.ev.message = msg

/-- What stands in the registers at each operation of the attempt on the buffer `b` for the username `u`, when the event
record was `ev` at its start. -/
inductive AttemptPhase (ev : Record) (b : List Sample) (u : List Byte) (s : State) : Prop
  | goertzel (seq : s.rxSeq = .goertzel) (buf : s.buf = b) (event : Delivered ev s none)
      (syms : s.syms.toList.take s.cidx.toNat = chunkSyms b s.cidx.toNat)
  | slice (seq : s.rxSeq = .slice) (buf : s.buf = b) (event : Delivered ev s none)
      (syms : s.syms.toList.take s.cidx.toNat = chunkSyms b s.cidx.toNat)
      (energy : s.en = Vector.ofFn (bankEnergy ((b.drop (176 * s.cidx.toNat)).take 176)))
  | scan (seq : s.rxSeq = .scan) (buf : s.buf = b) (event : Delivered ev s none)
      (syms : s.liveSyms = some (symbolsOf b))
  | unpack (seq : s.rxSeq = .unpack) (buf : s.buf = b) (event : Delivered ev s none)
      (hit : findPreamble (symbolsOf b) = some s.midx.toNat) (syms : s.liveSyms = some (symbolsOf b))
  | parse (seq : s.rxSeq = .parse) (buf : s.buf = b) (event : Delivered ev s none)
      (hit : findPreamble (symbolsOf b) = some s.midx.toNat) (bytes : s.livePbuf = some (payloadAt b s.midx.toNat))
  | filter (seq : s.rxSeq = .filter) (buf : s.buf = b) (event : Delivered ev s none)
      (hit : findPreamble (symbolsOf b) = some s.midx.toNat)
      (candidate : parsePayload (payloadAt b s.midx.toNat) = .frame s.cd.sender s.cd.message)
  | deliver (seq : s.rxSeq = .deliver) (buf : s.buf = b) (event : Delivered ev s none)
      (hit : findPreamble (symbolsOf b) = some s.midx.toNat)
      (foreign : (attempt b u).2 = some (s.cd.sender, s.cd.message))
  | advance (seq : s.rxSeq = .advance) (buf : s.buf = b) (event : Delivered ev s (attempt b u).2)
      (hit : findPreamble (symbolsOf b) = some s.midx.toNat)
  | trim (seq : s.rxSeq = .trim) (buf : s.buf = b.drop (attempt b u).1) (event : Delivered ev s (attempt b u).2)
  | done (seq : s.rxSeq = .capture) (buf : s.buf = trimSamples (b.drop (attempt b u).1))
      (event : Delivered ev s (attempt b u).2) (closed : s.burst = 0)

/-- An outcome that is a next state of the attempt. -/
def GoesOn (ev : Record) (b : List Sample) (u : List Byte) (o : Outcome State Fault Refusal) : Prop :=
  ∃ t, o = .next t ∧ AttemptPhase ev b u t

theorem GoesOn.phase {o : Outcome State Fault Refusal} (h : GoesOn ev b u o) (ht : o = .next t) :
    AttemptPhase ev b u t := by
  obtain ⟨v, rfl, hv⟩ := h
  cases ht
  exact hv

/-! ### The operations of the attempt -/

/-- R182: the energies of a chunk. -/
theorem goertzel_goesOn (h : CoreInv s) (hq : s.rxSeq = .goertzel) (hb : s.buf = b) (he : Delivered ev s none)
    (hs : s.syms.toList.take s.cidx.toNat = chunkSyms b s.cidx.toNat) : GoesOn ev b u (execRxGoertzel s) := by
  subst hb
  rw [execRxGoertzel, State.chunk_eq_some (h.chunk_bounds (.inl hq)).2]
  exact ⟨_, rfl, .slice rfl rfl he hs rfl⟩

/-- An element written at an index lengthens the list of the elements before it. -/
theorem take_succ_setIfInBounds {α : Type} {n c : Nat} (v : Vector α n) (hc : c < n) (x : α) :
    (v.setIfInBounds c x).toList.take (c + 1) = v.toList.take c ++ [x] := by
  have hl : c < v.toList.length := by simpa using hc
  rw [Vector.toList_setIfInBounds, List.take_add_one, List.take_set_of_le le_rfl, List.getElem?_set_self hl]
  rfl

/-- R186: the symbol of a chunk goes behind those of the chunks before it; after the last chunk the list is whole. -/
theorem slice_goesOn (h : CoreInv s) (hq : s.rxSeq = .slice) (hb : s.buf = b) (he : Delivered ev s none)
    (hs : s.syms.toList.take s.cidx.toNat = chunkSyms b s.cidx.toNat)
    (hen : s.en = Vector.ofFn (bankEnergy ((b.drop (176 * s.cidx.toNat)).take 176))) :
    GoesOn ev b u (execRxSlice s) := by
  subst hb
  have hc : s.cidx.toNat < 50 := (h.chunk_bounds (.inr hq)).1
  have hlt : s.cidx.toNat < numChunks s.buf.length := (h.chunk (.inr hq)).1
  have hnext : (s.cidx + 1).toNat = s.cidx.toNat + 1 := by bv_omega
  have hsyms : (s.syms.setIfInBounds s.cidx.toNat (sliced s.en)).toList.take (s.cidx + 1).toNat =
      chunkSyms s.buf (s.cidx + 1).toNat := by
    rw [hnext, take_succ_setIfInBounds _ hc, chunkSyms_succ, hs, hen]
    rfl
  simp only [execRxSlice, if_pos hc]
  split_ifs with hmore
  · exact ⟨_, rfl, .goertzel rfl rfl he hsyms⟩
  · have hlast : (s.cidx + 1).toNat = numChunks s.buf.length := by
      simp only [State.blen] at hmore
      omega
    have hlive := live_eq_some (v := s.syms.setIfInBounds s.cidx.toNat (sliced s.en))
      (show (s.cidx + 1).toNat ≤ 50 by omega)
    exact ⟨_, rfl, .scan rfl rfl he (hlive.trans (by rw [hsyms, hlast, symbolsOf_eq]))⟩

/-- R203: the scan finds what `findPreamble` finds. -/
theorem scan_goesOn (hb : s.buf = b) (he : Delivered ev s none) (hs : s.liveSyms = some (symbolsOf b)) :
    GoesOn ev b u (execRxScan s) := by
  simp only [execRxScan, hs]
  cases hi : findPreamble (symbolsOf b) with
  | none =>
    have ha := attempt_unmatched hi u
    exact ⟨_, rfl, .trim rfl (by rw [ha]; exact hb) (by rw [ha]; exact he)⟩
  | some i =>
    have hidx : (BitVec.ofNat 6 i).toNat = i := by
      have := (findPreamble_some hi).1
      have := symbolsOf_length_le b
      exact Nat.mod_eq_of_lt (by omega)
    exact ⟨_, rfl, .unpack rfl hb he (by rw [hidx]; exact hi) hs⟩

/-- R221: the bytes recovered are those behind the preamble. -/
theorem unpack_goesOn (hb : s.buf = b) (he : Delivered ev s none)
    (hi : findPreamble (symbolsOf b) = some s.midx.toNat) (hs : s.liveSyms = some (symbolsOf b)) :
    GoesOn ev b u (execRxUnpack s) := by
  have hlen := payloadAt_length_le b s.midx.toNat
  have hcnt : (BitVec.ofNat 5 (payloadAt b s.midx.toNat).length).toNat = (payloadAt b s.midx.toNat).length :=
    Nat.mod_eq_of_lt (by omega)
  have hbytes : live (overwrite s.pbuf 0 (payloadAt b s.midx.toNat))
      (BitVec.ofNat 5 (payloadAt b s.midx.toNat).length).toNat = some (payloadAt b s.midx.toNat) := by
    rw [hcnt, live_eq_some hlen, overwrite_take _ _ hlen]
  simp only [execRxUnpack, hs]
  exact ⟨_, if_neg (Nat.not_lt.mpr hlen), .parse rfl hb he hi hbytes⟩

/-- R223: the candidate is what the payload parses to. -/
theorem parse_goesOn (hb : s.buf = b) (he : Delivered ev s none)
    (hi : findPreamble (symbolsOf b) = some s.midx.toNat) (hp : s.livePbuf = some (payloadAt b s.midx.toNat)) :
    GoesOn ev b u (execRxParse s) := by
  simp only [execRxParse, hp]
  cases hf : parsePayload (payloadAt b s.midx.toNat) with
  | discard why => exact ⟨_, rfl, .advance rfl hb (by rw [attempt_discard hi hf]; exact he) hi⟩
  | frame snd msg =>
    have := parsePayload_frame hf
    have := payloadAt_length_le b s.midx.toNat
    obtain ⟨_, _, hsnd, hmsg⟩ := s.cd.store_fits snd msg (by omega) (by omega)
    exact ⟨_, rfl, .filter rfl hb he hi (by rw [hsnd, hmsg]; exact hf)⟩

/-- R236: with the lengths in their registers, two names are the same exactly where their bytes are. -/
theorem sameName_iff (h : CoreInv s) (hu : s.username = some u) : sameName s.cd s.ulen u = true ↔ s.cd.sender = u := by
  have hcand := s.cd.sender_length
  have hname := live_length hu
  have hfit := h.cdLen
  simp only [sameName, Bool.and_eq_true, decide_eq_true_eq, and_iff_right_iff_imp]
  intro e
  rw [e, hname] at hcand
  bv_omega

/-- R236: the receiver's own frame is dropped. -/
theorem filter_goesOn (h : CoreInv s) (hu : s.username = some u) (hb : s.buf = b) (he : Delivered ev s none)
    (hi : findPreamble (symbolsOf b) = some s.midx.toNat)
    (hf : parsePayload (payloadAt b s.midx.toNat) = .frame s.cd.sender s.cd.message) :
    GoesOn ev b u (execRxFilter s) := by
  have ha := attempt_frame_at hi hf u
  simp only [execRxFilter, hu, sameName_iff h hu]
  split_ifs with hown
  · rw [if_pos hown] at ha
    exact ⟨_, rfl, .advance rfl hb (by rw [ha]; exact he) hi⟩
  · rw [if_neg hown] at ha
    exact ⟨_, rfl, .deliver rfl hb he hi ha⟩

/-- R238: the event register is free, and takes the candidate. -/
theorem deliver_goesOn (h : CoreInv s) (hb : s.buf = b) (he : Delivered ev s none)
    (hi : findPreamble (symbolsOf b) = some s.midx.toNat)
    (ha : (attempt b u).2 = some (s.cd.sender, s.cd.message)) : GoesOn ev b u (execRxDeliver s) := by
  obtain ⟨hv, _⟩ := he
  have hsnd := s.cd.sender_length
  have hmsg := s.cd.message_length
  have hfit := h.cdLen
  obtain ⟨_, _, hs, hm⟩ := s.ev.store_fits s.cd.sender s.cd.message (by omega) (by omega)
  rw [execRxDeliver, hv]
  exact ⟨_, rfl, .advance rfl hb (by rw [ha]; exact ⟨rfl, rfl, hs, hm⟩) hi⟩

/-- R207: the advance drops what the attempt says. -/
theorem advance_goesOn (hb : s.buf = b) (he : Delivered ev s (attempt b u).2)
    (hi : findPreamble (symbolsOf b) = some s.midx.toNat) : GoesOn ev b u (execRxAdvance s) := by
  subst hb
  exact ⟨_, rfl, .trim rfl (by rw [attempt_advance hi]; rfl) he⟩

/-- R166: after the trim a Running core captures again. -/
theorem trim_goesOn (h : CoreInv s) (hrun : s.run = true) (hq : s.rxSeq = .trim)
    (hb : s.buf = b.drop (attempt b u).1) (he : Delivered ev s (attempt b u).2) : GoesOn ev b u (execRxTrim s) := by
  have hz : s.burst = 0 := h.burst_zero (by simp [hq])
  rw [execRxTrim_eq, hrun, trimmed_frame]
  exact ⟨_, rfl, .done rfl ((trimmed_buf s).trans (by rw [hb, trimSamples])) he hz⟩

/-! ### The whole attempt -/

/-- Every turn of the receive sequencer goes on in the attempt, or waits after its end. -/
theorem rxTurn_goesOn (h : CoreInv s) (hrun : s.run = true) (hu : s.username = some u)
    (hp : AttemptPhase ev b u s) : GoesOn ev b u (runFetched (activeMove .rx s)) := by
  cases hp with
  | done hq hb he hz => exact ⟨_, captureTurn_waits h hq, .done hq hb he hz⟩
  | goertzel hq hb he hs => rw [activeMove_rx, hq]; exact goertzel_goesOn h hq hb he hs
  | slice hq hb he hs hen => rw [activeMove_rx, hq]; exact slice_goesOn h hq hb he hs hen
  | scan hq hb he hs => rw [activeMove_rx, hq]; exact scan_goesOn hb he hs
  | unpack hq hb he hi hs => rw [activeMove_rx, hq]; exact unpack_goesOn hb he hi hs
  | parse hq hb he hi hbytes => rw [activeMove_rx, hq]; exact parse_goesOn hb he hi hbytes
  | filter hq hb he hi hf => rw [activeMove_rx, hq]; exact filter_goesOn h hu hb he hi hf
  | deliver hq hb he hi ha => rw [activeMove_rx, hq]; exact deliver_goesOn h hb he hi ha
  | advance hq hb he hi => rw [activeMove_rx, hq]; exact advance_goesOn hb he hi
  | trim hq hb he => rw [activeMove_rx, hq]; exact trim_goesOn h hrun hq hb he

/-- A Running core with the username `u` in an attempt on `b`. -/
structure Attempting (ev : Record) (b : List Sample) (u : List Byte) (s : State) : Prop where
  running : s.run = true
  name : s.username = some u
  phase : AttemptPhase ev b u s

/-- The schedule has no part in where an attempt stands. -/
theorem AttemptPhase.rescheduled (h : AttemptPhase ev b u s) (ms : List Move) :
    AttemptPhase ev b u { s with moves := ms } := by
  cases h with
  | goertzel hq hb he hs => exact .goertzel hq hb he hs
  | slice hq hb he hs hen => exact .slice hq hb he hs hen
  | scan hq hb he hs => exact .scan hq hb he hs
  | unpack hq hb he hi hs => exact .unpack hq hb he hi hs
  | parse hq hb he hi hbytes => exact .parse hq hb he hi hbytes
  | filter hq hb he hi hf => exact .filter hq hb he hi hf
  | deliver hq hb he hi ha => exact .deliver hq hb he hi ha
  | advance hq hb he hi => exact .advance hq hb he hi
  | trim hq hb he => exact .trim hq hb he
  | done hq hb he hz => exact .done hq hb he hz

theorem turnInvariant_attempting (ev : Record) (b : List Sample) (u : List Byte) :
    TurnInvariant (Attempting ev b u) where
  keeps := fun {s t} h ha ht =>
    have hf : ReceiveFrame s t := rxTurn_frame ht
    { running := by rw [hf]; exact ha.running
      name := by rw [hf]; exact ha.name
      phase := (rxTurn_goesOn h ha.running ha.name ha.phase).phase ht }
  rescheduled := fun ms ha => { ha with phase := ha.phase.rescheduled ms }
  goes := fun ha hq => by
    cases ha.phase with
    | deliver _ _ he => rw [he.1, Bool.false_and]
    | _ seq => simp [hq] at seq

/-- An attempt that rests is done. -/
theorem Attempting.done_of_rests (h : CoreInv s) (ha : Attempting ev b u s) (hw : rxWork s = 0) :
    s.rxSeq = .capture ∧ s.buf = trimSamples (b.drop (attempt b u).1) ∧ Delivered ev s (attempt b u).2 ∧
      s.burst = 0 := by
  have hq : s.rxSeq = .capture := (rxWork_eq_zero_iff.mp hw).resolve_left (h.running ha.running)
  cases ha.phase with
  | done hq hb he hz => exact ⟨hq, hb, he, hz⟩
  | _ seq => simp [hq] at seq

/-! ### The burst that begins it (R161, R162) -/

/-- R320: a core that captures is out of reset. -/
theorem CoreInv.rst_of_capture (h : CoreInv s) (hq : s.rxSeq = .capture) : s.rst = false := by
  by_contra hr
  rw [← h.held (by simpa using hr)] at hq
  cases hq

/-- R161: the state with the burst `r` on the ADC port and in the buffer. -/
def burstAppended (s : State) (ms : List Move) (r : List Sample) : State :=
  ({ s with moves := ms, adcData := r, adcLast := true } : State).append r

section Burst
variable {r : List Sample} {ms : List Move} (h : CoreInv s) (hq : s.rxSeq = .capture) (hz : s.burst = 0)
  (hne : r ≠ []) (hl : r.length ≤ s.rdMax)
include h hq hz hne hl

/-- R161: a whole burst in `RX_CAPTURE` is appended. -/
theorem step_burst (hm : s.moves = .adc r true :: ms) :
    step s = .next (afterAppend (burstAppended s ms r) r.length).adcTaken := by
  have hr := h.rst_of_capture hq
  have ha : ({ s with moves := ms } : State).adcReady = true := (adcReady_iff _).mpr ⟨hr, h.capturing hq, hq⟩
  have hroom : s.blen + r.length ≤ 17600 + s.rdMax := by
    have := h.bufCapture hq
    omega
  rw [step_eq_exec hm rfl hr (activeMove_adc ha r true)]
  exact execRxAppend_takes (s := { s with moves := ms, adcData := r, adcLast := true }) hne (by simpa [hz] using hl) hroom

/-- R162: below 5280 samples the core goes on capturing. -/
theorem step_burst_short (hb : (s.buf ++ r).length < 5280) (hm : s.moves = .adc r true :: ms) :
    step s = .next { s with
      moves := ms, buf := s.buf ++ r, rxSeq := .capture, burst := 0, adcData := [], adcLast := false } := by
  rw [step_burst h hq hz hne hl hm, afterAppend_ends (s := burstAppended s ms r) (h.capturing hq) rfl hb]
  rfl

/-- R162: from 5280 samples on an attempt begins at the first chunk. -/
theorem step_burst_triggers (hb : 5280 ≤ (s.buf ++ r).length) (hm : s.moves = .adc r true :: ms) :
    step s = .next { s with
      moves := ms, buf := s.buf ++ r, rxSeq := .goertzel, cidx := 0, scnt := 0, burst := 0, adcData := [],
      adcLast := false } := by
  rw [step_burst h hq hz hne hl hm, afterAppend_triggers (s := burstAppended s ms r) (h.capturing hq) rfl hb]
  rfl

/-- R163, R168: a burst that triggers, and the turns after it, make the whole attempt. -/
theorem run_attempt (hv : s.evtValid = false) (hu : s.username = some u) (hb : 5280 ≤ (s.buf ++ r).length)
    (hm : s.moves = .adc r true :: List.replicate 107 .rx) :
    ∃ t, Core.run Sys2Proof.core (107 + 1) s = .next t ∧ CoreInv t ∧ Attempting s.ev (s.buf ++ r) u t ∧
      rxWork t = 0 ∧ ReceiveFrame { s with moves := [] } t := by
  have hstep := step_burst_triggers h hq hz hne hl hb hm
  obtain ⟨t, ht, hinv, ha, hw, hf⟩ := run_rx_rests (turnInvariant_attempting s.ev (s.buf ++ r) u) 107 _
    (step_keeps h hstep) (h.rst_of_capture hq) ⟨h.capturing hq, hu, .goertzel rfl rfl ⟨hv, rfl⟩ rfl⟩ (rxWork_le _) rfl
  exact ⟨t, (run_succ_of_step 107 hstep).trans ht, hinv, ha, hw, hf⟩

end Burst

end Sys2Proof.Safety

open Sys2Proof Sys2Proof.Machine Sys2Proof.Safety

/-- Settles O23: a burst below the trigger is the whole iteration; else `run_attempt`. -/
theorem iterationMatchesItsFunction : Obligations.IterationMatchesItsFunction := by
  intro s r h hq hz hv hne hl
  by_cases hb : 5280 ≤ (s.buf ++ r).length
  · obtain ⟨t, ht, hinv, ha, hw, hf⟩ := run_attempt
      (s := { s with moves := .adc r true :: List.replicate 107 .rx }) (h.rescheduled _ s.tick) hq hz hne hl hv
      (live_eq_some h.ulen) hb rfl
    obtain ⟨hcap, hbuf, hev, hclosed⟩ := ha.done_of_rests hinv hw
    rw [iteration_attempt hb]
    exact ⟨107, t, le_rfl, ht, hcap, hclosed, hbuf, fun snd msg e => by rw [e] at hev; exact hev,
      fun e => by rw [e] at hev; exact hev, hf⟩
  · have hb : (s.buf ++ r).length < 5280 := Nat.lt_of_not_le hb
    have hstep := step_burst_short (s := { s with moves := [.adc r true] }) (h.rescheduled _ s.tick) hq hz hne hl hb rfl
    rw [iteration_short hb]
    exact ⟨0, _, Nat.zero_le _, run_succ_of_step 0 hstep, rfl, rfl, rfl, nofun, fun _ => ⟨hv, rfl⟩, rfl⟩
end

section
/-! PROOF. The arithmetic of the symbol detector (R182, R185, R190, R191): each channel's recurrence over unbounded integers
stays inside its bound, so that the registers hold it exactly and no energy reaches 2^50. -/
namespace Sys2Proof.Safety

open Sys2Proof.Machine

/-! ### The impulse response (R190) -/

/-- R190: the impulse response `h` of the recurrence with the coefficient `a`: `h[n]`, and `h[n-1]` with `h[-1] = 0`. -/
def impulse (a : ℚ) : ℕ → ℚ × ℚ
  | 0 => (1, 0)
  | n + 1 => (a * (impulse a n).1 - (impulse a n).2, (impulse a n).1)

/-- R190: the sum over `j` below `n` of `|h[j]|`. -/
def gain (a : ℚ) : ℕ → ℚ
  | 0 => 0
  | n + 1 => gain a n + |(impulse a n).1|

theorem gain_mono (a : ℚ) : Monotone (gain a) :=
  monotone_nat_of_le_succ fun _ => le_add_of_nonneg_right (abs_nonneg _)

/-- R190: the table's bounds are what the sums over a chunk give, by evaluation of the eight impulse responses. -/
theorem gain_le_laneBound :
    ∀ i : Fin 8, 32769 * gain ((crom.get i).coef.toInt / 16384) 176 ≤ laneBound.get i := by
  decide +kernel

/-! ### The recurrence over unbounded integers (R182, R190) -/

/-- R190: the floor shift takes off less than 1, so a step is the linear one with an input of magnitude at most 32769. -/
theorem exactStep_linear (c : Int) (q : Int × Int) (x : Sample) :
    ∃ v : ℚ, |v| ≤ 32769 ∧ ((exactStep c q x).1 : ℚ) = c / 16384 * q.1 - q.2 + v := by
  have hdiv : (c * q.1 : ℚ) = (c * q.1 % 16384 : Int) + 16384 * (c * q.1 / 16384 : Int) := by
    exact_mod_cast (Int.emod_add_mul_ediv (c * q.1) 16384).symm
  have hlow : 0 ≤ ((c * q.1 % 16384 : Int) : ℚ) := by exact_mod_cast Int.emod_nonneg _ (by decide)
  have hhigh : ((c * q.1 % 16384 : Int) : ℚ) < 16384 := by exact_mod_cast Int.emod_lt_of_pos _ (by decide)
  have hxlow : (-32768 : ℚ) ≤ x.toInt := by exact_mod_cast BitVec.le_toInt x
  have hxhigh : (x.toInt : ℚ) < 32768 := by exact_mod_cast BitVec.toInt_lt (x := x)
  refine ⟨x.toInt - (c * q.1 % 16384 : Int) / 16384, abs_le.mpr ⟨by linarith, by linarith⟩, ?_⟩
  simp only [exactStep]
  push_cast
  linarith

/-- R190: after `n` samples the register is the response to the values it began with, up to `32769` times the sum of the
impulse response. -/
theorem foldl_exactStep_error (c : Int) (xs : List Sample) (q : Int × Int) :
    |((xs.foldl (exactStep c) q).1 : ℚ)
      - ((impulse (c / 16384) xs.length).1 * q.1 - (impulse (c / 16384) xs.length).2 * q.2)|
      ≤ 32769 * gain (c / 16384) xs.length := by
  induction xs generalizing q with
  | nil => simp [impulse, gain]
  | cons x xs ih =>
    obtain ⟨v, hv, hq⟩ := exactStep_linear c q x
    have ih := ih (exactStep c q x)
    have hsnd : (exactStep c q x).2 = q.1 := rfl
    rw [hq, hsnd] at ih
    rw [List.foldl_cons, List.length_cons, impulse, gain]
    generalize impulse (c / 16384) xs.length = h at ih ⊢
    generalize ((xs.foldl (exactStep c) (exactStep c q x)).1 : ℚ) = y at ih ⊢
    calc |y - ((c / 16384 * h.1 - h.2) * q.1 - h.1 * q.2)|
        = |(y - (h.1 * (c / 16384 * q.1 - q.2 + v) - h.2 * q.1)) + h.1 * v| := by congr 1; ring
      _ ≤ 32769 * gain (c / 16384) xs.length + |h.1| * |v| := (abs_add_le _ _).trans (add_le_add ih (abs_mul _ _).le)
      _ ≤ 32769 * (gain (c / 16384) xs.length + |h.1|) := by
        linarith [mul_le_mul_of_nonneg_left hv (abs_nonneg h.1)]

theorem exactRun_append_singleton (c : Int) (xs : List Sample) (x : Sample) :
    exactRun c (xs ++ [x]) = exactStep c (exactRun c xs) x := by
  simp [exactRun]

/-- R190: `Q1` of every channel stays inside the channel's bound. -/
theorem exactRun_fst_le_laneBound (i : Fin 8) {xs : List Sample} (h : xs.length ≤ 176) :
    |(exactRun (crom.get i).coef.toInt xs).1| ≤ laneBound.get i := by
  have herror := foldl_exactStep_error (crom.get i).coef.toInt xs (0, 0)
  have hgain := gain_mono ((crom.get i).coef.toInt / 16384) h
  have hbound := gain_le_laneBound i
  simp only [Int.cast_zero, mul_zero, sub_zero] at herror
  have : |((exactRun (crom.get i).coef.toInt xs).1 : ℚ)| ≤ laneBound.get i := by
    rw [exactRun]
    linarith
  exact_mod_cast this

/-- R190: so does `Q2`, which is `Q1` of one sample before. -/
theorem exactRun_snd_le_laneBound (i : Fin 8) {xs : List Sample} (h : xs.length ≤ 176) :
    |(exactRun (crom.get i).coef.toInt xs).2| ≤ laneBound.get i := by
  obtain rfl | ⟨ys, x, rfl⟩ := xs.eq_nil_or_concat'
  · exact exactRun_fst_le_laneBound i h
  · rw [exactRun_append_singleton]
    exact exactRun_fst_le_laneBound i ((List.sublist_append_left ys [x]).length_le.trans h)

/-! ### The registers (R21, R182, R190) -/

/-- The integers that a channel's two registers hold. -/
def laneInt (q : BitVec 32 × BitVec 32) : Int × Int := (q.1.toInt, q.2.toInt)

/-- R190: the largest bound of the table, which is below 2^24. -/
theorem laneBound_le : ∀ i : Fin 8, laneBound.get i ≤ 14843630 := by decide

/-- R21: a value within that bound is stored as it is. -/
theorem toInt_ofInt_of_abs_le {v : Int} (h : |v| ≤ 14843630) : (BitVec.ofInt 32 v).toInt = v := by
  have := abs_le.mp h
  rw [BitVec.toInt_ofInt, Int.bmod_eq_of_le (by omega) (by omega)]

/-- R182: a step whose exact result fits is the exact step. -/
theorem laneInt_laneStep {coef : BitVec 16} {q : BitVec 32 × BitVec 32} {x : Sample}
    (h : |(exactStep coef.toInt (laneInt q) x).1| ≤ 14843630) :
    laneInt (laneStep coef q x) = exactStep coef.toInt (laneInt q) x :=
  Prod.ext (toInt_ofInt_of_abs_le h) rfl

/-- R190: the registers hold the exact integers after any number of samples up to a chunk's. -/
theorem laneInt_laneRun (i : Fin 8) {xs : List Sample} (h : xs.length ≤ 176) :
    laneInt (laneRun (crom.get i).coef xs) = exactRun (crom.get i).coef.toInt xs := by
  induction xs using List.reverseRecOn with
  | nil => rfl
  | append_singleton xs x ih =>
    have hprev := ih ((List.sublist_append_left xs [x]).length_le.trans h)
    have hfit := (exactRun_fst_le_laneBound i h).trans (laneBound_le i)
    rw [exactRun_append_singleton, ← hprev] at hfit ⊢
    rw [← laneInt_laneStep hfit]
    simp [laneRun]

/-! ### The energy (R22, R185, R190) -/

/-- A product with a factor of at most 1, shifted down, is no larger than the other factor. -/
theorem abs_mul_shift_le {q w : Int} (hw : |w| ≤ 16384) : |q * w / 16384| ≤ |q| := by
  have hmul : |q * w| ≤ |q| * 16384 := by
    rw [abs_mul]
    exact mul_le_mul_of_nonneg_left hw (abs_nonneg q)
  have := abs_le.mp hmul
  exact abs_le.mpr ⟨by omega, by omega⟩

/-- R185: the energy of registers of magnitude at most `b`. -/
theorem exactEnergy_le {q : Int × Int} {cosw sinw b : Int} (h1 : |q.1| ≤ b) (h2 : |q.2| ≤ b)
    (hc : |cosw| ≤ 16384) (hs : |sinw| ≤ 16384) : exactEnergy cosw sinw q ≤ 5 * b ^ 2 := by
  have hre : |q.1 - q.2 * cosw / 16384| ≤ 2 * b := by
    have := abs_sub q.1 (q.2 * cosw / 16384)
    have := abs_mul_shift_le (q := q.2) hc
    omega
  have him : |q.2 * sinw / 16384| ≤ b := (abs_mul_shift_le hs).trans h2
  have hre2 := sq_le_sq' (abs_le.mp hre).1 (abs_le.mp hre).2
  have him2 := sq_le_sq' (abs_le.mp him).1 (abs_le.mp him).2
  calc exactEnergy cosw sinw q ≤ (2 * b) ^ 2 + b ^ 2 := add_le_add hre2 him2
    _ = 5 * b ^ 2 := by ring

/-- R182, R185: an energy below 2^50 is stored as it is. -/
theorem laneEnergy_toNat {r : CromRow} {q : BitVec 32 × BitVec 32}
    (h : exactEnergy r.cosw.toInt r.sinw.toInt (laneInt q) < 2 ^ 50) :
    ((laneEnergy r q).toNat : Int) = exactEnergy r.cosw.toInt r.sinw.toInt (laneInt q) := by
  have hdef : laneEnergy r q = BitVec.ofInt 64 (exactEnergy r.cosw.toInt r.sinw.toInt (laneInt q)) := by
    simp only [laneEnergy, exactEnergy, laneInt, asr14, sq]
  have hnonneg : 0 ≤ exactEnergy r.cosw.toInt r.sinw.toInt (laneInt q) := add_nonneg (sq_nonneg _) (sq_nonneg _)
  rw [hdef, BitVec.toNat_ofInt, Int.emod_eq_of_lt hnonneg (by omega), Int.toNat_of_nonneg hnonneg]

/-- R181: `COSW` and `SINW` are at most 1, in 14 fraction bits. -/
theorem crom_twiddle_le : ∀ i : Fin 8,
    |(crom.get i).cosw.toInt| ≤ 16384 ∧ |(crom.get i).sinw.toInt| ≤ 16384 := by decide

/-- R190: no channel's exact energy over a chunk reaches 2^50. -/
theorem exactEnergy_exactRun_lt (i : Fin 8) {xs : List Sample} (h : xs.length ≤ 176) :
    exactEnergy (crom.get i).cosw.toInt (crom.get i).sinw.toInt (exactRun (crom.get i).coef.toInt xs) < 2 ^ 50 :=
  (exactEnergy_le ((exactRun_fst_le_laneBound i h).trans (laneBound_le i))
    ((exactRun_snd_le_laneBound i h).trans (laneBound_le i)) (crom_twiddle_le i).1 (crom_twiddle_le i).2).trans_lt
    (by norm_num)

/-- R182, R190: the energy register holds the exact energy. -/
theorem bankEnergy_exact (i : Fin 8) {xs : List Sample} (h : xs.length ≤ 176) :
    ((bankEnergy xs i).toNat : Int) =
      exactEnergy (crom.get i).cosw.toInt (crom.get i).sinw.toInt (exactRun (crom.get i).coef.toInt xs) := by
  have hlt := exactEnergy_exactRun_lt i h
  rw [← laneInt_laneRun i h] at hlt ⊢
  exact laneEnergy_toNat hlt

end Sys2Proof.Safety

open Sys2Proof Sys2Proof.Machine Sys2Proof.Safety

/-- Settles O26: the impulse response bounds both registers. -/
theorem laneRegistersStayInBounds : Obligations.LaneRegistersStayInBounds :=
  fun i _ h => ⟨exactRun_fst_le_laneBound i h, exactRun_snd_le_laneBound i h⟩

/-- Settles O27: inside those bounds nothing wraps. -/
theorem detectorRegistersAreExact : Obligations.DetectorRegistersAreExact := by
  intro i xs hlen
  have hregs := laneInt_laneRun i hlen.le
  have henergy := bankEnergy_exact i hlen.le
  have hlt := exactEnergy_exactRun_lt i hlen.le
  exact ⟨congrArg Prod.fst hregs, congrArg Prod.snd hregs, henergy, by rw [← henergy] at hlt; exact_mod_cast hlt⟩
end

section
/-! PROOF. The two operations of the symbol detector: what `RX_GOERTZEL` writes (R182, R184) and what `RX_SLICE` writes
(R186). -/
namespace Sys2Proof.Machine

variable {s : State}

/-! ### The filter bank (R182) -/

/-- R182, R184: the state after `RX_GOERTZEL` on the chunk `xs`. -/
def bankFilled (s : State) (xs : List Sample) : State :=
  { s with
    q1 := Vector.ofFn fun i => (bankQ xs i).1
    q2 := Vector.ofFn fun i => (bankQ xs i).2
    en := Vector.ofFn (bankEnergy xs)
    gn := 175
    rxSeq := .slice }

@[simp] theorem bankFilled_q1 (xs : List Sample) (i : Fin 8) : (bankFilled s xs).q1.get i = (bankQ xs i).1 :=
  Vector.get_ofFn _ i

@[simp] theorem bankFilled_q2 (xs : List Sample) (i : Fin 8) : (bankFilled s xs).q2.get i = (bankQ xs i).2 :=
  Vector.get_ofFn _ i

@[simp] theorem bankFilled_en (xs : List Sample) (i : Fin 8) : (bankFilled s xs).en.get i = bankEnergy xs i :=
  get_ofFn_bankEnergy xs i

/-- R182: a chunk that the buffer holds fills the bank. -/
theorem exec_rxGoertzel_of_chunk (h : 176 * s.cidx.toNat + 176 ≤ s.blen) :
    exec .rxGoertzel s = .next (bankFilled s ((s.buf.drop (176 * s.cidx.toNat)).take 176)) := by
  change execRxGoertzel s = _
  rw [execRxGoertzel, State.chunk_eq_some h]
  rfl

/-- R60: a chunk that the buffer does not hold is a fault. -/
theorem exec_rxGoertzel_fault (h : s.blen < 176 * s.cidx.toNat + 176) :
    exec .rxGoertzel s = .fault (.memRange .buf) := by
  change execRxGoertzel s = _
  rw [execRxGoertzel, State.chunk, if_neg (Nat.not_le.mpr h)]

/-- R188: silence leaves a channel's registers and its energy at zero. -/
theorem bankFilled_silence (n : Nat) (i : Fin 8) :
    (bankFilled s (List.replicate n 0)).q1.get i = 0 ∧ (bankFilled s (List.replicate n 0)).q2.get i = 0 ∧
      (bankFilled s (List.replicate n 0)).en.get i = 0 := by
  simp only [bankFilled_q1, bankFilled_q2, bankFilled_en, bankQ, laneRun_silence, bankEnergy_silence, and_self]

/-! ### The slicer (R186) -/

theorem sliced_toNat (en : Vector (BitVec 64) 8) : (sliced en).toNat = (argmax en).val :=
  Nat.mod_eq_of_lt (argmax en).isLt

/-- R186: inside the list of 50 symbols `RX_SLICE` stores the symbol and counts the chunk, and goes to the next chunk or to
the scan. -/
theorem exec_rxSlice_cases (hc : s.cidx.toNat < 50) :
    ∃ t, exec .rxSlice s = .next t ∧
      t = { s with
        dsym := sliced s.en, syms := s.syms.setIfInBounds s.cidx.toNat (sliced s.en), scnt := s.cidx + 1,
        cidx := t.cidx, rxSeq := t.rxSeq } ∧
      ((s.cidx.toNat + 1 < numChunks s.blen ∧ t.cidx = s.cidx + 1 ∧ t.rxSeq = .goertzel) ∨
        (numChunks s.blen ≤ s.cidx.toNat + 1 ∧ t.cidx = s.cidx ∧ t.rxSeq = .scan)) := by
  change ∃ t, execRxSlice s = .next t ∧ _
  simp only [execRxSlice, if_pos hc]
  split_ifs with hmore
  · exact ⟨_, rfl, rfl, .inl ⟨hmore, rfl, rfl⟩⟩
  · exact ⟨_, rfl, rfl, .inr ⟨Nat.not_lt.mp hmore, rfl, rfl⟩⟩

end Sys2Proof.Machine

open Sys2Proof Sys2Proof.Machine Sys2Proof.Safety

/-- Settles O25: `exec_rxGoertzel_of_chunk`, and the fault of R60. -/
theorem goertzelFillsTheBank : Obligations.GoertzelFillsTheBank := fun _ =>
  ⟨fun h => ⟨_, exec_rxGoertzel_of_chunk h, rfl, fun i => by simp [bankQ, bankEnergy]⟩, exec_rxGoertzel_fault⟩

/-- Settles O28: `argmax_spec` on the symbol that `exec_rxSlice_cases` stores. -/
theorem slicePicksLowestMaximum : Obligations.SlicePicksLowestMaximum := by
  intro s hc
  have hnext : (s.cidx + 1).toNat = s.cidx.toNat + 1 := by bv_omega
  obtain ⟨t, hexec, hframe, hseq⟩ := exec_rxSlice_cases hc
  have hdsym : t.dsym = sliced s.en := by rw [hframe]
  have hsyms : t.syms = s.syms.setIfInBounds s.cidx.toNat t.dsym := by rw [hdsym, hframe]
  have hscnt : t.scnt = s.cidx + 1 := by rw [hframe]
  refine ⟨t, argmax s.en, hexec, ?_, by rw [hdsym, sliced_toNat], fun j => (argmax_spec s.en j).1,
    fun j => (argmax_spec s.en j).2, fun j hj => ?_, by rw [hscnt, hnext], fun hmore => ?_, fun hlast => ?_⟩
  · rw [hframe]
  · rw [hsyms, Vector.getElem?_setIfInBounds]
    simp only [eq_comm (a := j), hc, if_true]
  · obtain ⟨_, hcidx, hrx⟩ | ⟨hlast, _, _⟩ := hseq
    · exact ⟨by rw [hcidx, hnext], hrx⟩
    · exact absurd hmore (Nat.not_lt.mpr hlast)
  · obtain ⟨hmore, _, _⟩ | ⟨_, hcidx, hrx⟩ := hseq
    · exact absurd hmore (Nat.not_lt.mpr hlast)
    · exact ⟨hcidx, hrx⟩

/-- Settles O29: `bankFilled_silence` for the bank, `argmax_eq_zero` for the slicer. -/
theorem silenceDetectsAsSymbolZero : Obligations.SilenceDetectsAsSymbolZero := by
  refine ⟨fun s hzero => ?_, fun s hc heq => ?_⟩
  · have hchunk : 176 * s.cidx.toNat + 176 ≤ s.blen := by
      have hlen := congrArg List.length hzero
      rw [List.length_take, List.length_drop, List.length_replicate] at hlen
      rw [State.blen]
      omega
    refine ⟨_, exec_rxGoertzel_of_chunk hchunk, ?_⟩
    rw [hzero]
    exact bankFilled_silence 176
  · obtain ⟨t, hexec, hframe, _⟩ := exec_rxSlice_cases hc
    have hdsym : t.dsym = sliced s.en := by rw [hframe]
    exact ⟨t, hexec, by rw [hdsym, sliced, argmax_eq_zero heq]; rfl⟩
end

section
/-! PROOF. The preamble scan and the advance over a frame (44_frame_sync.md R203, R207). -/

namespace Sys2Proof.Machine

variable {s : State} {xs : List Sys2Proof.Symbol} {i : Nat}

/-! ### The first preamble of a list (R203) -/

/-- Four symbols of a list are the preamble exactly where each of the four stands in its place. -/
theorem take_drop_eq_preamble_iff :
    (xs.drop i).take 4 = Config.preamble ↔
      xs[i]? = some 0 ∧ xs[i + 1]? = some 7 ∧ xs[i + 2]? = some 0 ∧ xs[i + 3]? = some 7 := by
  have hget : ∀ k, xs[i + k]? = (xs.drop i)[k]? := fun _ => List.getElem?_drop.symm
  rw [show xs[i]? = (xs.drop i)[0]? from hget 0, hget 1, hget 2, hget 3]
  match xs.drop i with
  | [] | [_] | [_, _] | [_, _, _] | _ :: _ :: _ :: _ :: _ => simp

/-- R203: where no preamble stands at the head, the search goes on in the tail. -/
theorem findPreamble_cons_of_ne {a : Sys2Proof.Symbol} (h : (a :: xs).take 4 ≠ Config.preamble) :
    findPreamble (a :: xs) = (findPreamble xs).map (· + 1) := by
  rw [findPreamble, if_neg h]

/-- R203: a list without a preamble has no match; `findPreamble_some` is the converse. -/
theorem findPreamble_eq_none (h : ∀ i, (xs.drop i).take 4 ≠ Config.preamble) : findPreamble xs = none := by
  induction xs with
  | nil => rfl
  | cons a rest ih => rw [findPreamble_cons_of_ne (h 0), ih fun i => h (i + 1), Option.map_none]

/-- The search goes up from index 0, so it ends at the first match. -/
theorem findPreamble_eq_some_of_first (hat : (xs.drop i).take 4 = Config.preamble)
    (hfirst : ∀ j, j < i → (xs.drop j).take 4 ≠ Config.preamble) : findPreamble xs = some i := by
  induction xs generalizing i with
  | nil => simp at hat
  | cons a rest ih =>
    cases i with
    | zero => rw [findPreamble]; exact if_pos hat
    | succ i =>
      have hrest : findPreamble rest = some i := ih hat fun j hj => hfirst (j + 1) (Nat.succ_lt_succ hj)
      rw [findPreamble_cons_of_ne (hfirst 0 i.succ_pos), hrest, Option.map_some]

/-! ### The scan and the advance (R203, R207) -/

/-- R35, R203: a preamble of the live symbols is one of `SYMS` that ends below `SCNT`. -/
theorem liveSyms_preamble_iff (hl : s.liveSyms = some xs) :
    (xs.drop i).take 4 = Config.preamble ↔ i + 4 ≤ s.scnt.toNat ∧ s.syms[i]? = some 0 ∧ s.syms[i + 1]? = some 7 ∧
      s.syms[i + 2]? = some 0 ∧ s.syms[i + 3]? = some 7 := by
  have hget : ∀ j, j < s.scnt.toNat → xs[j]? = s.syms[j]? := fun _ => live_getElem? hl
  rw [take_drop_eq_preamble_iff]
  by_cases hin : i + 4 ≤ s.scnt.toNat
  · rw [hget i (by omega), hget (i + 1) (by omega), hget (i + 2) (by omega), hget (i + 3) (by omega)]
    simp only [hin, true_and]
  · have hout : xs[i + 3]? = none := List.getElem?_eq_none (by rw [live_length hl]; omega)
    simp [hin, hout]

theorem exec_rxScan_of_match (hl : s.liveSyms = some xs) (hi : findPreamble xs = some i) :
    exec .rxScan s = .next { s with matched := true, midx := BitVec.ofNat 6 i, rxSeq := .unpack } := by
  simp only [exec, execRxScan, hl, hi]

theorem exec_rxScan_of_none (hl : s.liveSyms = some xs) (hnone : findPreamble xs = none) :
    exec .rxScan s = .next { s with matched := false, rxSeq := .trim } := by
  simp only [exec, execRxScan, hl, hnone]

theorem exec_rxAdvance (s : State) :
    exec .rxAdvance s = .next ((s.dropOldest (advanceLen s.midx.toNat s.blen)).goRx .trim) := rfl

end Sys2Proof.Machine

open Sys2Proof Sys2Proof.Machine

/-- Settles O31: the scan searches the live symbols from index 0 up (`findPreamble_eq_some_of_first`,
`findPreamble_eq_none`), and a preamble there is one in `SYMS` (`liveSyms_preamble_iff`). -/
theorem scanFindsFirstPreamble : Obligations.ScanFindsFirstPreamble := by
  intro s hscnt hit
  have hl : s.liveSyms = some (s.syms.toList.take s.scnt.toNat) := live_eq_some hscnt
  refine ⟨fun i hat hfirst => ?_, fun hnone => ?_⟩
  · exact exec_rxScan_of_match hl (findPreamble_eq_some_of_first ((liveSyms_preamble_iff hl).mpr hat)
      fun j hj hp => hfirst j hj ((liveSyms_preamble_iff hl).mp hp))
  · exact exec_rxScan_of_none hl (findPreamble_eq_none fun i hp => hnone i ((liveSyms_preamble_iff hl).mp hp))

/-- Settles O35: `advanceLen` is R207's `adv`, and the drop and the transition write `BUF` and `RXSEQ` only. -/
theorem advanceDropsTheFrame : Obligations.AdvanceDropsTheFrame := by
  intro s
  rw [exec_rxAdvance, State.dropOldest, State.goRx, advanceLen]
end

section
/-! PROOF. The deframer: the bytes that `RX_UNPACK` recovers from the payload window (R97, R205, R221), and how `RX_PARSE`
drops or splits them (R104, R223). -/
namespace Sys2Proof.Machine

variable {s : State} {bs : List Byte} {l : Byte}

/-! ### The payload window and its bits (R97, R205, R221) -/

/-- R97: `byteOfBits` puts bit `8m + u` of the stream, most significant first, at place `7 - u` of byte `m`. -/
theorem byteOfBits_getLsbD (bit : Nat → Bool) (m : Nat) {u : Nat} (hu : u < 8) :
    (byteOfBits bit m).getLsbD (7 - u) = bit (8 * m + u) := by
  obtain ⟨x, hx⟩ : ∃ x : Byte, ∀ t, t < 8 → x.getLsbD (7 - t) = bit (8 * m + t) := by
    refine ⟨BitVec.ofFnLE fun i : Fin 8 => bit (8 * m + (7 - i)), fun t ht => ?_⟩
    rw [BitVec.getLsbD_ofFnLE, dif_pos (by omega)]
    exact congrArg (fun k => bit (8 * m + k)) (by dsimp only; omega)
  have hbits : ∀ t ∈ List.range 8, (bit (8 * m + t)).toNat * 2 ^ (7 - t) = (x.getLsbD (7 - t)).toNat * 2 ^ (7 - t) :=
    fun t ht => by rw [hx t (List.mem_range.mp ht)]
  rw [byteOfBits, List.map_congr_left hbits, byte_eq_sum_bits, hx u hu]

theorem unpack_getElem? {ps : List Sys2Proof.Symbol} {m : Nat} (hm : m < 3 * ps.length / 8) :
    (unpack ps)[m]? = some (byteOfBits (symBit ps) m) := by
  simp [unpack, hm]

/-- R205: the payload window is what `SYMS` holds from `MIDX + 4` on, below `SCNT`. -/
theorem payWindow_getElem? {syms : List Sys2Proof.Symbol} (hs : s.liveSyms = some syms) {i j : Nat}
    (hj : i + 4 + j < s.scnt.toNat) : (payWindow syms i)[j]? = s.syms[i + 4 + j]? := by
  rw [payWindow, List.getElem?_drop, live_getElem? hs hj]

/-- R97, R221: a bit of the payload window is one of a symbol of `SYMS`. -/
theorem symBit_payWindow {syms : List Sys2Proof.Symbol} (hs : s.liveSyms = some syms) {i b : Nat}
    (hb : i + 4 + b / 3 < s.scnt.toNat) :
    ∃ y, s.syms[i + 4 + b / 3]? = some y ∧ symBit (payWindow syms i) b = y.getLsbD (2 - b % 3) := by
  have hin : b / 3 < (payWindow syms i).length := by
    rw [payWindow, List.length_drop, live_length hs]
    omega
  refine ⟨(payWindow syms i)[b / 3], ?_, ?_⟩
  · rw [← payWindow_getElem? hs hb, List.getElem?_eq_getElem hin]
  · rw [symBit, List.getD_eq_getElem _ _ hin]

/-- R221: the recovered bytes `bytes` are written to `PBUF`. -/
def State.unpacked (s : State) (bytes : List Byte) : State :=
  { s with pbuf := overwrite s.pbuf 0 bytes, pcnt := BitVec.ofNat 5 bytes.length, rxSeq := .parse }

/-- R221: `RX_UNPACK` of live symbols whose window fits `PBUF`. -/
theorem exec_rxUnpack_fits {syms : List Sys2Proof.Symbol} (hs : s.liveSyms = some syms)
    (hl : (unpack (payWindow syms s.midx.toNat)).length ≤ 17) :
    exec .rxUnpack s = .next (s.unpacked (unpack (payWindow syms s.midx.toNat))) := by
  simp only [exec, execRxUnpack, hs, if_neg (Nat.not_lt.mpr hl), State.unpacked]

/-- R36: `PCNT` holds the length of every payload that fits `PBUF`. -/
theorem unpacked_pcnt (s : State) (hl : bs.length ≤ 17) : (s.unpacked bs).pcnt.toNat = bs.length :=
  Nat.mod_eq_of_lt (by omega)

/-! ### The strip of trailing 0x00 bytes (R223) -/

/-- R223: the strip takes away bytes 0x00 at the end and nothing else; `stripNul_getLast?_ne` says that it takes all. -/
theorem stripNul_append_stripped (bs : List Byte) :
    stripNul bs ++ List.replicate (bs.length - (stripNul bs).length) 0 = bs := by
  have hsplit : stripNul bs ++ bs.rtakeWhile (· == 0#8) = bs := List.rdropWhile_append_rtakeWhile
  have hzeros : bs.rtakeWhile (· == 0#8) = List.replicate (bs.rtakeWhile (· == 0#8)).length 0 :=
    List.eq_replicate_of_mem fun _ hb => eq_of_beq (List.mem_rtakeWhile_imp (p := (· == 0#8)) hb)
  have hlen := congrArg List.length hsplit
  rw [List.length_append] at hlen
  rw [← Nat.eq_sub_of_add_eq' hlen, ← hzeros, hsplit]

theorem stripNul_getLast?_ne (bs : List Byte) : (stripNul bs).getLast? ≠ some 0 := by
  intro h
  obtain ⟨hne, hlast⟩ := List.mem_getLast?_eq_getLast h
  exact List.rdropWhile_last_not (· == 0#8) bs hne (beq_iff_eq.mpr hlast.symm)

/-! ### The two drops and the split (R104, R223) -/

theorem parsePayload_short (h : bs.length < 2) : parsePayload bs = .discard .dfShort := by
  match bs with
  | [] | [_] => rfl
  | _ :: _ :: _ => simp at h

/-- R223: from two bytes on only the sender length decides. -/
theorem parsePayload_long {rest : List Byte} (h : rest ≠ []) :
    parsePayload (l :: rest) =
      if rest.length < l.toNat then .discard .dfSlen
      else .frame (rest.take l.toNat) (stripNul (rest.drop l.toNat)) := by
  rw [parsePayload]
  simpa using h

/-- R223: what splits into a sender and a message is the payload of R141 for the two, with bytes 0x00 behind it;
`parsePayload_payload` is the converse. -/
theorem parsePayload_split {rest : List Byte} (h : rest ≠ []) (hl : l.toNat ≤ rest.length) :
    ∃ snd msg k, parsePayload (l :: rest) = .frame snd msg ∧ snd.length = l.toNat ∧ msg.getLast? ≠ some 0 ∧
      l :: rest = payload snd (msg ++ List.replicate k 0) := by
  have hsnd : (rest.take l.toNat).length = l.toNat := List.length_take_of_le hl
  have hparse := (parsePayload_long h).trans (if_neg (Nat.not_lt.mpr hl))
  refine ⟨_, _, (rest.drop l.toNat).length - (stripNul (rest.drop l.toNat)).length, hparse, hsnd,
    stripNul_getLast?_ne _, ?_⟩
  rw [stripNul_append_stripped, payload, hsnd, BitVec.ofNat_toNat, BitVec.setWidth_eq, List.take_append_drop]

/-- R36: a live payload of two bytes or more is its length byte and a rest that is not empty. -/
theorem livePbuf_eq_cons (hp : s.livePbuf = some bs) (h2 : 2 ≤ s.pcnt.toNat) :
    ∃ rest, rest ≠ [] ∧ rest.length = s.pcnt.toNat - 1 ∧ bs = s.pbuf[0] :: rest := by
  have hlen := live_length hp
  have h0 : bs[0]? = s.pbuf[0]? := live_getElem? hp (by omega)
  match bs with
  | [] | [_] => simp at hlen; omega
  | a :: b :: rest =>
    rw [Vector.getElem?_eq_getElem (by decide)] at h0
    cases h0
    exact ⟨b :: rest, List.cons_ne_nil _ _, Nat.eq_sub_of_add_eq hlen, rfl⟩

/-- R141, R223: where the parts of a live payload stand in `PBUF`: the sender, the message, and the bytes 0x00 behind it. -/
theorem pbuf_getElem?_payload {snd msg : List Byte} {k : Nat}
    (hp : s.livePbuf = some (payload snd (msg ++ List.replicate k 0))) :
    (∀ j, j < snd.length → s.pbuf[1 + j]? = snd[j]?) ∧
    (∀ j, j < msg.length → s.pbuf[1 + snd.length + j]? = msg[j]?) ∧
    ∀ j, msg.length ≤ j → 1 + snd.length + j < s.pcnt.toNat → s.pbuf[1 + snd.length + j]? = some 0 := by
  have hlen := live_length hp
  rw [payload_length, List.length_append, List.length_replicate] at hlen
  have hmsg : ∀ j, 1 + snd.length + j < s.pcnt.toNat →
      s.pbuf[1 + snd.length + j]? = (msg ++ List.replicate k 0)[j]? := fun j hj => by
    rw [← live_getElem? hp hj, payload_getElem?_message]
  refine ⟨fun j hj => ?_, fun j hj => ?_, fun j hj hin => ?_⟩
  · rw [← live_getElem? hp (by omega), payload_getElem?_sender _ _ hj]
  · rw [hmsg j (by omega), List.getElem?_append_left hj]
  · rw [hmsg j hin, List.getElem?_append_right hj, List.getElem?_replicate_of_lt (by omega)]

theorem exec_rxParse_of_discard {why : Discard} (hp : s.livePbuf = some bs) (hf : parsePayload bs = .discard why) :
    exec .rxParse s = .next { s with parseOk := false, rxSeq := .advance } := by
  simp only [exec, execRxParse, hp, hf]

theorem exec_rxParse_of_frame {snd msg : List Byte} (hp : s.livePbuf = some bs)
    (hf : parsePayload bs = .frame snd msg) :
    exec .rxParse s = .next { s with cd := s.cd.store snd msg, parseOk := true, rxSeq := .filter } := by
  simp only [exec, execRxParse, hp, hf]

/-- R37: what a stored pair leaves at every index of the record's two files. -/
theorem Record.store_getElem? (r : Record) {snd msg : List Byte} (hs : snd.length ≤ 16) (hm : msg.length ≤ 16)
    (j : Nat) :
    (r.store snd msg).snd[j]? = (if j < snd.length then snd[j]? else r.snd[j]?) ∧
    (r.store snd msg).msg[j]? = (if j < msg.length then msg[j]? else r.msg[j]?) := by
  constructor <;> split_ifs with hj
  · exact overwrite_getElem?_of_lt _ hs hj
  · exact overwrite_getElem?_of_ge _ (Nat.not_lt.mp hj)
  · exact overwrite_getElem?_of_lt _ hm hj
  · exact overwrite_getElem?_of_ge _ (Nat.not_lt.mp hj)

end Sys2Proof.Machine

open Sys2Proof Sys2Proof.Machine

/-- Settles O33: every byte of `unpack` is assembled from the window's bits (`unpack_getElem?`, `byteOfBits_getLsbD`), and
these are the bits of `SYMS` (`symBit_payWindow`). -/
theorem unpackRecoversWindowBytes : Obligations.UnpackRecoversWindowBytes := by
  intro s hscnt
  have hs : s.liveSyms = some (s.syms.toList.take s.scnt.toNat) := live_eq_some hscnt
  generalize s.syms.toList.take s.scnt.toNat = syms at hs
  have hwindow : (payWindow syms s.midx.toNat).length = s.scnt.toNat - (s.midx.toNat + 4) := by
    rw [payWindow, List.length_drop, live_length hs]
  have hlen : (unpack (payWindow syms s.midx.toNat)).length = 3 * (s.scnt.toNat - (s.midx.toNat + 4)) / 8 := by
    rw [unpack_length, hwindow]
  have hfits : (unpack (payWindow syms s.midx.toNat)).length ≤ 17 := by omega
  have hpcnt := unpacked_pcnt s hfits
  refine ⟨_, exec_rxUnpack_fits hs hfits, rfl, hpcnt.trans hlen, fun m hm u hu => ?_, fun m hm => ?_⟩
  · rw [hpcnt] at hm
    obtain ⟨y, hy, hbit⟩ := symBit_payWindow hs (i := s.midx.toNat) (b := 8 * m + u) (by omega)
    refine ⟨_, y, ?_, hy, (byteOfBits_getLsbD _ m hu).trans hbit⟩
    exact (overwrite_getElem?_of_lt _ hfits hm).trans (unpack_getElem? (by omega))
  · exact overwrite_getElem?_of_ge _ (hpcnt ▸ hm)

/-- Settles O34: `parsePayload_short` and `parsePayload_long` for the two drops, `parsePayload_split` for the split. -/
theorem parseSplitsThePayload : Obligations.ParseSplitsThePayload := by
  intro s hpcnt p l
  have hlive : s.livePbuf = some (s.pbuf.toList.take p) := live_eq_some hpcnt
  generalize s.pbuf.toList.take p = bs at hlive
  refine ⟨fun hdrop => ?_, fun h2 hl => ?_⟩
  · obtain hshort | h2 := Nat.lt_or_ge p 2
    · exact exec_rxParse_of_discard hlive (parsePayload_short ((live_length hlive).trans_lt hshort))
    · obtain ⟨rest, hne, hrest, rfl⟩ := livePbuf_eq_cons hlive h2
      have hslen : rest.length < l := hrest.trans_lt (hdrop.resolve_left (Nat.not_lt.mpr h2))
      exact exec_rxParse_of_discard hlive ((parsePayload_long hne).trans (if_pos hslen))
  · obtain ⟨rest, hne, hrest, rfl⟩ := livePbuf_eq_cons hlive h2
    obtain ⟨snd, msg, k, hparse, hsnd, hlast, hpay⟩ := parsePayload_split hne (hl.trans_eq hrest.symm)
    have hexec := exec_rxParse_of_frame hlive hparse
    have hfits : snd.length + msg.length + 1 ≤ p := (parsePayload_frame hparse).trans_eq (live_length hlive)
    obtain ⟨hsender, hmessage, hzeros⟩ := pbuf_getElem?_payload (hpay ▸ hlive)
    obtain ⟨hslen, hmlen, _, _⟩ := s.cd.store_fits snd msg (by omega) (by omega)
    have hstored := s.cd.store_getElem? (show snd.length ≤ 16 by omega) (show msg.length ≤ 16 by omega)
    replace hsnd : snd.length = l := hsnd
    rw [hsnd] at hslen hmessage hzeros hsender hfits
    refine ⟨_, msg.length, hexec, rfl, by omega, fun j hj hp => hzeros j hj (by omega), fun hr => ?_, hslen, hmlen,
      fun j _ => (hstored j).1.trans ?_, fun j _ => (hstored j).2.trans ?_⟩
    · rw [List.getLast?_eq_getElem?, ← hmessage _ (by omega)] at hlast
      rwa [show l + msg.length = 1 + l + (msg.length - 1) by omega]
    · rw [hsnd]
      exact ite_congr rfl (fun hj => (hsender j hj).symm) fun _ => rfl
    · exact ite_congr rfl (fun hj => (hmessage j hj).symm) fun _ => rfl
end

section
/-! PROOF. The self-filter (R236), the copy of a candidate into the event record (R238), and the byte that one event
transfer hands over (R100, R239). -/
namespace Sys2Proof.Machine

variable {s : State}

/-! ### Live parts and records (R32, R37) -/

/-- Two register files have the same live part exactly where they agree below the count. -/
theorem live_eq_iff {α : Type} {n m k : Nat} {v : Vector α n} {w : Vector α m} {xs ys : List α}
    (hv : live v k = some xs) (hw : live w k = some ys) : xs = ys ↔ ∀ j, j < k → v[j]? = w[j]? := by
  constructor
  · rintro rfl j hj
    rw [← live_getElem? hv hj, live_getElem? hw hj]
  · intro h
    refine List.ext_getElem? fun j => ?_
    by_cases hj : j < k
    · rw [live_getElem? hv hj, live_getElem? hw hj, h j hj]
    · have hk := Nat.not_lt.mp hj
      rw [List.getElem?_eq_none ((live_length hv).trans_le hk), List.getElem?_eq_none ((live_length hw).trans_le hk)]

theorem Record.live_sender {r : Record} (h : r.slen.toNat ≤ 16) : live r.snd r.slen.toNat = some r.sender :=
  live_eq_some h

theorem Record.live_message {r : Record} (h : r.mlen.toNat ≤ 16) : live r.msg r.mlen.toNat = some r.message :=
  live_eq_some h

/-! ### The self-filter (R236) -/

/-- R236: `same` holds exactly where the length registers are equal and the bytes below them agree. -/
theorem sameName_iff_bytes {name : List Byte} (hu : s.ulen.toNat ≤ 16) (hn : s.username = some name) :
    sameName s.cd s.ulen name = true ↔
      s.cd.slen = s.ulen ∧ ∀ j, j < s.ulen.toNat → s.cd.snd[j]? = s.user[j]? := by
  simp only [sameName, Bool.and_eq_true, decide_eq_true_eq]
  refine and_congr_right fun hlen => ?_
  have hsnd : live s.cd.snd s.ulen.toNat = some s.cd.sender := hlen ▸ Record.live_sender (hlen ▸ hu)
  exact live_eq_iff hsnd hn

theorem exec_rxFilter {name : List Byte} (hn : s.username = some name) :
    exec .rxFilter s = .next (s.goRx (if sameName s.cd s.ulen name then .advance else .deliver)) := by
  simp only [exec, execRxFilter, hn]
  split <;> rfl

/-! ### Delivery (R238) -/

theorem exec_rxDeliver_free (hv : s.evtValid = false) : exec .rxDeliver s =
    .next { s with ev := s.ev.store s.cd.sender s.cd.message, evtValid := true, evi := 0, rxSeq := .advance } := by
  simp [exec, execRxDeliver, hv]

theorem exec_rxDeliver_stopped (hv : s.evtValid = true) (hr : s.run = false) :
    exec .rxDeliver s = .next (s.goRx .advance) := by
  simp [exec, execRxDeliver, hv, hr]

theorem exec_rxDeliver_waits (hv : s.evtValid = true) (hr : s.run = true) : exec .rxDeliver s = .next s := by
  simp [exec, execRxDeliver, hv, hr]

/-- R37, R238: storing the pair of a record copies its lengths and the bytes below them. -/
theorem Record.store_copies (r : Record) {c : Record} (hs : c.slen.toNat ≤ 16) (hm : c.mlen.toNat ≤ 16) :
    (r.store c.sender c.message).slen = c.slen ∧ (r.store c.sender c.message).mlen = c.mlen ∧
    ∀ j, (r.store c.sender c.message).snd[j]? = (if j < c.slen.toNat then c.snd[j]? else r.snd[j]?) ∧
      (r.store c.sender c.message).msg[j]? = (if j < c.mlen.toNat then c.msg[j]? else r.msg[j]?) := by
  have hsnd := live_length (Record.live_sender hs)
  have hmsg := live_length (Record.live_message hm)
  have hstored := r.store_getElem? (hsnd.trans_le hs) (hmsg.trans_le hm)
  obtain ⟨hslen, hmlen, _, _⟩ := r.store_fits c.sender c.message (hsnd.trans_le hs) (hmsg.trans_le hm)
  rw [hsnd] at hslen
  rw [hmsg] at hmlen
  rw [hsnd, hmsg] at hstored
  refine ⟨BitVec.eq_of_toNat_eq hslen, BitVec.eq_of_toNat_eq hmlen, fun j => ⟨?_, ?_⟩⟩
  · exact (hstored j).1.trans (ite_congr rfl (live_getElem? (Record.live_sender hs)) fun _ => rfl)
  · exact (hstored j).2.trans (ite_congr rfl (live_getElem? (Record.live_message hm)) fun _ => rfl)

/-! ### The bytes of an event record (R100) -/

section Bytes
variable {r : Record} {j : Nat}

/-- R100, R141: an event record is read out like a payload whose message has its length byte in front. -/
theorem Record.bytes_eq_payload (hs : r.slen.toNat ≤ 16) :
    r.bytes = payload r.sender (r.mlen.setWidth 8 :: r.message) := by
  rw [Record.bytes, payload, live_length (Record.live_sender hs), BitVec.ofNat_toNat]

theorem Record.bytes_slen (r : Record) : r.bytes[0]? = some (r.slen.setWidth 8) := rfl

theorem Record.bytes_sender (hs : r.slen.toNat ≤ 16) (hj : j < r.slen.toNat) : r.bytes[1 + j]? = r.snd[j]? := by
  have hl := Record.live_sender hs
  rw [Record.bytes_eq_payload hs, payload_getElem?_sender _ _ (hj.trans_eq (live_length hl).symm), live_getElem? hl hj]

/-- R100: behind the sender stand the message's length byte and the message. -/
theorem Record.bytes_behind_sender (hs : r.slen.toNat ≤ 16) (j : Nat) :
    r.bytes[1 + r.slen.toNat + j]? = (r.mlen.setWidth 8 :: r.message)[j]? := by
  have h := payload_getElem?_message r.sender (r.mlen.setWidth 8 :: r.message) j
  rwa [← Record.bytes_eq_payload hs, live_length (Record.live_sender hs)] at h

theorem Record.bytes_mlen (hs : r.slen.toNat ≤ 16) :
    r.bytes[1 + r.slen.toNat]? = some (r.mlen.setWidth 8) :=
  Record.bytes_behind_sender hs 0

theorem Record.bytes_message (hs : r.slen.toNat ≤ 16) (hm : r.mlen.toNat ≤ 16) (hj : j < r.mlen.toNat) :
    r.bytes[2 + r.slen.toNat + j]? = r.msg[j]? := by
  rw [show 2 + r.slen.toNat + j = 1 + r.slen.toNat + (j + 1) by omega, Record.bytes_behind_sender hs,
    List.getElem?_cons_succ, live_getElem? (Record.live_message hm) hj]

/-- A length register is handed over as a byte of the same value. -/
theorem length_byte_toNat (n : BitVec 5) : (n.setWidth 8).toNat = n.toNat :=
  BitVec.toNat_setWidth_of_le (by decide)

end Bytes

end Sys2Proof.Machine

open Sys2Proof Sys2Proof.Machine

/-- Settles O36: the test of `exec_rxFilter` is R236's comparison (`sameName_iff_bytes`). -/
theorem filterDropsOwnName : Obligations.FilterDropsOwnName := by
  intro s hu same
  have hn : s.username = some (s.user.toList.take s.ulen.toNat) := live_eq_some hu
  have hsame := sameName_iff_bytes hu hn
  refine ⟨fun h => ?_, fun h => ?_⟩
  · rw [exec_rxFilter hn, if_pos (hsame.mpr h), State.goRx]
  · rw [exec_rxFilter hn, if_neg (mt hsame.mp h), State.goRx]

/-- Settles O37: `exec_rxDeliver_free` with `Record.store_copies` for the copy, and the equations of the other two cases. -/
theorem deliverCopiesWaitsOrDrops : Obligations.DeliverCopiesWaitsOrDrops := by
  intro s hs hm
  refine ⟨fun hv => ?_, exec_rxDeliver_stopped, exec_rxDeliver_waits⟩
  obtain ⟨hslen, hmlen, hbytes⟩ := s.ev.store_copies hs hm
  exact ⟨_, exec_rxDeliver_free hv, rfl, hslen, hmlen, fun j _ => (hbytes j).1, fun j _ => (hbytes j).2⟩

/-- Settles O38: the byte is the one of `Record.bytes` that `EVI` selects, and the steps are `step_evt_byte` and
`step_evt_last`. -/
theorem eventPortTransfersOneByte : Obligations.EventPortTransfersOneByte := by
  intro s ms hmoves hr hv hs hm hevi
  have hlen : s.ev.bytes.length = 2 + s.ev.slen.toNat + s.ev.mlen.toNat := by
    rw [s.ev.bytes_length, min_eq_left hs, min_eq_left hm]
  obtain ⟨b, hb⟩ : ∃ b, s.ev.bytes[s.evi.toNat]? = some b := ⟨_, List.getElem?_eq_getElem (hevi.trans_eq hlen.symm)⟩
  refine ⟨b, fun h => ?slen, fun j hj h => ?sender, fun h => ?mlen, fun j h => ?message,
    fun h => step_evt_byte hmoves hr hv hb (hlen ▸ h.ne), fun h => step_evt_last hmoves hr hv hb (hlen ▸ h)⟩
  case slen =>
    rw [h, Record.bytes_slen] at hb
    rw [← Option.some.inj hb, length_byte_toNat]
  case sender => rwa [h, Record.bytes_sender hs hj] at hb
  case mlen =>
    rw [h, Record.bytes_mlen hs] at hb
    rw [← Option.some.inj hb, length_byte_toNat]
  case message => rwa [h, Record.bytes_message hs hm (by omega)] at hb
end

section
/-! PROOF. The six host commands, one equation for each of their cases (R251 to R256, R286). -/
namespace Sys2Proof.Machine

variable {s : State}

/-! ### `START` (R252) -/

theorem execStart_running (hr : s.run = true) : execStart s = .next s := by
  rw [execStart, if_pos hr]

theorem execStart_opens (hr : s.run = false) (ha : s.adcOk = true) (hd : s.dacOk = true) :
    execStart s = .next { s with
      buf := [], burst := 0, matched := false, parseOk := false, rxSeq := .capture, run := true } := by
  rw [execStart, if_neg (by simp [hr]), if_pos (by simp [ha, hd])]

theorem execStart_fails (hr : s.run = false) (h : s.adcOk = false ∨ s.dacOk = false) :
    execStart s = .next (s.raise .startFail) := by
  have hdev : ¬ (s.adcOk && s.dacOk) = true := by
    obtain h | h := h <;> simp [h]
  rw [execStart, if_neg (by simp [hr]), if_neg hdev]

/-! ### `STOP` (R253) -/

theorem execStop_stopped (hr : s.run = false) : execStop s = .next s := by
  rw [execStop, if_neg (by simp [hr])]

/-! ### `SETUSER` (R254, R286) -/

section Setuser
variable {name : List Byte}

theorem execSetuser_tooLong (hl : 16 < name.length) : execSetuser name s = .next (s.raise .badLen) :=
  if_pos hl

theorem execSetuser_cfgRunning (hl : name.length ≤ 16) (hr : s.run = true) :
    execSetuser name s = .next (s.raise .cfgRunning) :=
  (if_neg (Nat.not_lt.mpr hl)).trans (if_pos hr)

theorem execSetuser_stopped (hl : name.length ≤ 16) (hr : s.run = false) :
    execSetuser name s = .next (s.setUser name) :=
  (if_neg (Nat.not_lt.mpr hl)).trans (if_neg (by simp [hr]))

/-- R32: `ULEN` holds the length of every name that fits `USER`. -/
theorem setUser_ulen_toNat (s : State) (hl : name.length ≤ 16) : (s.setUser name).ulen.toNat = name.length := by
  rw [State.setUser_ulen, BitVec.toNat_ofNat]
  exact Nat.mod_eq_of_lt (by omega)

/-- R254: the bytes of `USER` that a name leaves: its own, then what stood there (log 21). -/
theorem setUser_getElem? (s : State) (hl : name.length ≤ 16) (j : Nat) :
    (s.setUser name).user[j]? = if j < name.length then name[j]? else s.user[j]? := by
  split_ifs with hj
  · exact overwrite_getElem?_of_lt s.user hl hj
  · exact overwrite_getElem?_of_ge s.user (Nat.not_lt.mp hj)

end Setuser

/-! ### `SEND` (R255, R286) -/

section Send
variable {msg : List Byte}

theorem execSend_tooLong (hl : 64 < msg.length) : execSend msg s = .next (s.raise .badLen) :=
  if_pos hl

theorem execSend_stopped (hl : msg.length ≤ 64) (hr : s.run = false) :
    execSend msg s = .next (s.raise .sendStopped) :=
  (if_neg (Nat.not_lt.mpr hl)).trans (if_pos (by simp [hr]))

/-- While Running only `TX_BUSY` decides on a message that fits. -/
theorem execSend_running (hl : msg.length ≤ 64) (hr : s.run = true) :
    execSend msg s =
      if s.txBusy then .next (s.raise .sendBusy)
      else .next { s with txBusy := true, txSeq := .frame, txMsg := msg } :=
  (if_neg (Nat.not_lt.mpr hl)).trans (if_neg (by simp [hr]))

end Send

/-! ### `CLRERR` (R256) -/

/-- R256: bit by bit, an error stays where the mask does not select it. -/
theorem clearErr_getLsbD (s : State) (mask : Byte) {j : Nat} (hj : j < 6) :
    (s.clearErr mask).err.getLsbD j = (s.err.getLsbD j && !mask.getLsbD j) := by
  rw [State.clearErr_err, BitVec.getLsbD_and, BitVec.getLsbD_not, BitVec.getLsbD_setWidth]
  simp [hj]

end Sys2Proof.Machine

open Sys2Proof Sys2Proof.Machine

/-- Settles O12: the meaning of `NOP` is the identity. -/
theorem nopChangesNothing : Obligations.NopChangesNothing := fun _ => rfl

/-- Settles O13, case by case of `START`. -/
theorem startEntersRunningOrFails : Obligations.StartEntersRunningOrFails :=
  fun _ => ⟨execStart_running, execStart_opens, execStart_fails⟩

/-- Settles O14: `execStop_running` names every field that a `STOP` writes. -/
theorem stopLeavesRunning : Obligations.StopLeavesRunning := by
  intro s
  refine ⟨execStop_stopped, fun hr => ⟨_, execStop_running hr, rfl, rfl, fun hq => ?_, fun hq => ?_⟩⟩
  · exact ⟨if_pos hq, if_pos hq⟩
  · exact ⟨if_neg hq, if_neg hq⟩

/-- Settles O15: the two refusals, and `setUser_getElem?` for the name that is written. -/
theorem setuserWritesTheName : Obligations.SetuserWritesTheName :=
  fun s _ => ⟨execSetuser_tooLong, execSetuser_cfgRunning, fun hl hr =>
    ⟨_, execSetuser_stopped hl hr, rfl, setUser_ulen_toNat s hl, fun j _ => setUser_getElem? s hl j⟩⟩

/-- Settles O16: the length first, then `RUN`, then `TX_BUSY`. -/
theorem sendIsAcceptedOrRefused : Obligations.SendIsAcceptedOrRefused :=
  fun _ _ => ⟨execSend_tooLong, execSend_stopped,
    fun hl hr hb => (execSend_running hl hr).trans (if_pos hb),
    fun hl hr hb => (execSend_running hl hr).trans (if_neg (by simp [hb]))⟩

/-- Settles O17: `clearErr_getLsbD`. -/
theorem clrerrClearsMaskedBits : Obligations.ClrerrClearsMaskedBits :=
  fun s mask => ⟨_, rfl, rfl, fun _ hj => clearErr_getLsbD s mask hj⟩
end

section
/-! PROOF. A command record on the port (R98, R250, R258): each byte before the last is kept in the staging registers, and
the last runs the command. -/
namespace Sys2Proof

variable {op len b : Byte} {data rest : List Byte} {i : Instr}

/-- R98: only three opcodes have a byte after them in their record. -/
theorem opcode_of_decode (h : decode (.cmd (op :: b :: rest)) = .ok i) : op = 3 ∨ op = 4 ∨ op = 5 := by
  obtain ⟨_, henc⟩ := encode_of_decode_cmd h
  cases i <;> cases henc
  case setuser => exact .inl rfl
  case send => exact .inr (.inl rfl)
  case clrerr => exact .inr (.inr rfl)

/-- R98, R99: data that is decoded has the declared length, within the limit; `decode_wholeRecord` is the converse. -/
theorem dataFits_of_decode (h : decode (.cmd (op :: len :: data)) = .ok i) (hne : data ≠ []) :
    DataFits op len ∧ data.length = len.toNat := by
  obtain ⟨hwf, henc⟩ := encode_of_decode_cmd h
  have hbyte : data.length ≤ 64 → (BitVec.ofNat 8 data.length).toNat = data.length := fun hl => by
    rw [BitVec.toNat_ofNat]
    exact Nat.mod_eq_of_lt (by omega)
  cases i <;> cases henc
  case setuser =>
    have hl : data.length ≤ 16 := of_decide_eq_true hwf
    have hlen := hbyte (by omega)
    exact ⟨.inl ⟨rfl, hlen.trans_le hl⟩, hlen.symm⟩
  case send =>
    have hl : data.length ≤ 64 := of_decide_eq_true hwf
    have hlen := hbyte hl
    exact ⟨.inr ⟨rfl, hlen.trans_le hl⟩, hlen.symm⟩
  case clrerr => exact absurd rfl hne

/-- R98: a legal length byte above 0 leaves the record incomplete. -/
theorem decode_lengthByte (hf : DataFits op len) (hpos : 0 < len.toNat) :
    decode (.cmd [op, len]) = .rejected .incomplete := by
  have hdata : ∀ {limit : Nat} (mk : List Byte → Instr), len.toNat ≤ limit →
      decodeData limit mk [len] = .rejected .incomplete := fun mk hl => by
    rw [decodeData_lengthByte, if_neg (Nat.not_lt.mpr hl), if_pos hpos]
  obtain ⟨rfl, hl⟩ | ⟨rfl, hl⟩ := hf
  · have e : decodeStream [3, len] = decodeData 16 .setuser [len] := rfl
    simp only [decode, decodeCmd, e, hdata _ hl]
  · have e : decodeStream [4, len] = decodeData 64 .send [len] := rfl
    simp only [decode, decodeCmd, e, hdata _ hl]

end Sys2Proof

namespace Sys2Proof.Machine

variable {s t : State} {b : Byte} {i : Instr}

/-! ### The bytes received so far (R39) -/

theorem record_op (hq : s.cmdSeq = .op) : s.record = [] := by
  rw [State.record, hq]

theorem record_len (hq : s.cmdSeq = .len) : s.record = [s.cmdOp] := by
  rw [State.record, hq]

theorem record_data (hq : s.cmdSeq = .data) :
    s.record = s.cmdOp :: s.cmdLen :: s.cmdBuf.toList.take s.cmdCnt.toNat := by
  rw [State.record, hq]

/-- R258: in `C_DATA`, when what has been received and what is to come make a record, there is room for the next byte and
the count tells how many bytes are to come. -/
theorem cmdCnt_of_decode {d : List Byte} (hq : s.cmdSeq = .data)
    (h : decode (.cmd (s.record ++ b :: d)) = .ok i) :
    s.cmdCnt.toNat < 64 ∧ s.cmdCnt.toNat + 1 + d.length = s.cmdLen.toNat := by
  rw [record_data hq, List.cons_append, List.cons_append] at h
  obtain ⟨hfits, hlen⟩ := dataFits_of_decode h (by simp)
  have hmax : s.cmdLen.toNat ≤ 64 := by
    obtain ⟨_, hl⟩ | ⟨_, hl⟩ := hfits <;> omega
  simp only [List.length_append, List.length_take, Vector.length_toList, List.length_cons] at hlen
  omega

/-- R39, R258: a byte staged at the count joins the bytes received. -/
theorem take_setIfInBounds (v : Vector Byte 64) {k : Nat} (hk : k < 64) (b : Byte) :
    (v.setIfInBounds k b).toList.take (k + 1) = v.toList.take k ++ [b] := by
  rw [List.take_add_one, Vector.getElem?_toList, Vector.getElem?_setIfInBounds_self, if_pos hk,
    Vector.toList_setIfInBounds, List.take_set_of_le (Nat.le_refl k)]
  rfl

/-! ### One byte of a record (R258) -/

/-- R39: `t` is `s` but for the decoder's state and its staging registers. -/
def DecoderFrame (s t : State) : Prop :=
  t = { s with
    cmdSeq := t.cmdSeq, cmdOp := t.cmdOp, cmdLen := t.cmdLen, cmdCnt := t.cmdCnt, cmdBuf := t.cmdBuf,
    cmdSkip := t.cmdSkip }

/-- R258: the byte that completes a record runs its command, in `C_OP`, with the byte in `CMDBUF` if it is data. -/
theorem cmdByte_completes (hk : s.cmdSeq = .data → s.cmdSkip = false)
    (h : decode (.cmd (s.record ++ [b])) = .ok i) :
    ∃ buf, cmdByte b s = .run i { s with cmdSeq := .op, cmdBuf := buf } ∧
      (s.cmdSeq ≠ .data → buf = s.cmdBuf) ∧
      (s.cmdSeq = .data → buf = s.cmdBuf.setIfInBounds s.cmdCnt.toNat b) := by
  cases hq : s.cmdSeq with
  | op =>
    rw [record_op hq, List.nil_append] at h
    refine ⟨s.cmdBuf, ?_, fun _ => rfl, nofun⟩
    rw [cmdByte_op hq, cmdByteOp, h, ← hq]
  | len =>
    rw [record_len hq, List.singleton_append] at h
    refine ⟨s.cmdBuf, ?_, fun _ => rfl, nofun⟩
    rw [cmdByte_len hq, cmdByteLen, h]
  | data =>
    obtain ⟨hroom, hlast⟩ := cmdCnt_of_decode hq h
    rw [List.length_nil, Nat.add_zero] at hlast
    refine ⟨_, ?_, nofun, fun _ => rfl⟩
    rw [cmdByte_data hq, cmdByteData, if_neg (by simp [hk hq, hroom]), if_neg hlast.not_lt, if_pos hlast,
      if_neg (by simp [hk hq]), h, State.stageByte, if_neg (by simp [hk hq])]

/-- R98, R258: an opcode whose record has another byte opens it. -/
theorem cmdByte_opens (hq : s.cmdSeq = .op) (hop : b = 3 ∨ b = 4 ∨ b = 5) :
    cmdByte b s = .idle { s with cmdOp := b, cmdSeq := .len } := by
  obtain h3 | h4 | rfl := hop
  · exact cmdByte_opensData hq (.inl h3)
  · exact cmdByte_opensData hq (.inr h4)
  · rw [cmdByte_op hq]
    rfl

/-- R258: a legal length byte above 0 opens the data. -/
theorem cmdByte_declares (hq : s.cmdSeq = .len) (hf : DataFits s.cmdOp b) (hpos : 0 < b.toNat) :
    cmdByte b s = .idle { s with cmdLen := b, cmdCnt := 0, cmdSkip := false, cmdSeq := .data } := by
  rw [cmdByte_len hq, cmdByteLen, decode_lengthByte hf hpos]

/-- R258: a byte of data before the last is stored at the count. -/
theorem cmdByte_stores (hq : s.cmdSeq = .data) (hk : s.cmdSkip = false) (hroom : s.cmdCnt.toNat < 64)
    (hmore : s.cmdCnt.toNat + 1 < s.cmdLen.toNat) :
    cmdByte b s =
      .idle { s with cmdBuf := s.cmdBuf.setIfInBounds s.cmdCnt.toNat b, cmdCnt := s.cmdCnt + 1 } := by
  rw [cmdByte_data hq, cmdByteData, if_neg (by simp [hk, hroom]), if_pos hmore, State.stageByte,
    if_neg (by simp [hk])]

/-- R258: a byte before the last of a record is kept, and the decoder waits for the next. -/
theorem cmdByte_continues {c : Byte} {d : List Byte} (hk : s.cmdSeq = .data → s.cmdSkip = false)
    (h : decode (.cmd (s.record ++ b :: c :: d)) = .ok i) :
    ∃ t, cmdByte b s = .idle t ∧ DecoderFrame s t ∧ t.record = s.record ++ [b] ∧
      (t.cmdSeq = .data → t.cmdSkip = false) := by
  cases hq : s.cmdSeq with
  | op =>
    rw [record_op hq, List.nil_append] at h
    refine ⟨_, cmdByte_opens hq (opcode_of_decode h), rfl, ?_, nofun⟩
    rw [record_op hq, record_len rfl, List.nil_append]
  | len =>
    rw [record_len hq, List.singleton_append] at h
    obtain ⟨hfits, hlen⟩ := dataFits_of_decode h (List.cons_ne_nil _ _)
    have hpos : 0 < b.toNat := hlen ▸ Nat.succ_pos _
    refine ⟨_, cmdByte_declares hq hfits hpos, rfl, ?_, fun _ => rfl⟩
    rw [record_len hq, record_data rfl]
    rfl
  | data =>
    obtain ⟨hroom, hcnt⟩ := cmdCnt_of_decode hq h
    rw [List.length_cons] at hcnt
    refine ⟨_, cmdByte_stores hq (hk hq) hroom (by omega), rfl, (record_data (by exact hq)).trans ?_, fun _ => hk hq⟩
    have hsucc : (s.cmdCnt + 1).toNat = s.cmdCnt.toNat + 1 := by bv_omega
    rw [record_data hq, hsucc, take_setIfInBounds _ hroom]
    rfl

/-! ### A whole record (R98, R250) -/

/-- A run of one step ends as the step does. -/
theorem run_one (s : State) : Host.Core.run Sys2Proof.core 1 s = step s := by
  have hs : Sys2Proof.core.step s = step s := rfl
  simp only [Host.Core.run, hs]
  cases step s <;> rfl

/-- R250, R258: the bytes left of a record run its command, and before it write only the staging registers. -/
theorem run_record (d : List Byte) (s : State) (hne : d ≠ []) (hm : s.moves = d.map .cmd)
    (hc : s.cmdReady = true) (hb : s.txBuilding = false) (hk : s.cmdSeq = .data → s.cmdSkip = false)
    (h : decode (.cmd (s.record ++ d)) = .ok i) :
    ∃ u, Host.Core.run Sys2Proof.core d.length s = exec i u ∧ u.cmdSeq = .op ∧
      DecoderFrame { s with moves := [] } u := by
  induction d generalizing s with
  | nil => exact absurd rfl hne
  | cons b d ih =>
    cases d with
    | nil =>
      obtain ⟨buf, hrun, _⟩ := cmdByte_completes (s := { s with moves := [] }) hk h
      exact ⟨_, (run_one s).trans ((step_cmd hm hc hb).trans (congrArg runFetched hrun)), rfl, rfl⟩
    | cons c d =>
      obtain ⟨t, htake, hframe, hrec, hskip⟩ :=
        cmdByte_continues (s := { s with moves := (c :: d).map .cmd }) hk h
      have hct : t.cmdReady = true := by rw [hframe]; exact hc
      have hbt : t.txBuilding = false := by rw [hframe]; exact hb
      have hmt : t.moves = (c :: d).map .cmd := by rw [hframe]
      have hdec : decode (.cmd (t.record ++ c :: d)) = .ok i := by
        rw [hrec, List.append_assoc]
        exact h
      obtain ⟨u, hrun, hop, hu⟩ := ih t (List.cons_ne_nil _ _) hmt hct hbt hskip hdec
      refine ⟨u, (run_succ_of_cmdByte _ hm hc hb htake).trans hrun, hop, ?_⟩
      rw [DecoderFrame, hu, hframe]

/-- R15: while a frame is being built a command byte waits for the transmit sequencer's turn. -/
theorem step_builds {ms : List Move} (hm : s.moves = .cmd b :: ms) (hc : s.cmdReady = true)
    (hb : s.txBuilding = true) : step s = runFetched (activeMove .tx s) := by
  have ho : s.offered = .cmd b := by rw [State.offered, hm]
  obtain ⟨hn, ht⟩ := nextMove_builds ((buildsFirst_iff s).mpr ⟨hb, hc, b, ho⟩)
  have hr : s.resets .tx = false := by
    simp only [State.cmdReady, Bool.and_eq_true, Bool.not_eq_true'] at hc
    simp [State.resets, hc.1]
  rw [step, fetch, hn, ht, fetchMove_active hr]

end Sys2Proof.Machine

open Sys2Proof Sys2Proof.Machine

/-- Settles O6: `cmdByte_completes` for the byte that is taken, `step_builds` for the one that waits. -/
theorem stepRunsCompletedCommand : Obligations.StepRunsCompletedCommand := by
  intro s b ms i hm hc
  refine ⟨fun hb hk h => ?_, fun hq => ?_, fun hq => ?_⟩
  · obtain ⟨buf, hrun, hkept, hstaged⟩ := cmdByte_completes (s := { s with moves := ms }) hk h
    refine ⟨_, (step_cmd hm hc hb).trans (congrArg runFetched hrun), rfl, hkept, fun hq j hj => ?_⟩
    rw [hstaged hq, Vector.getElem?_setIfInBounds]
    by_cases he : j = s.cmdCnt.toNat
    · rw [if_pos he.symm, if_pos (he ▸ hj), if_pos he]
    · rw [if_neg (Ne.symm he), if_neg he]
  · rw [step_builds hm hc ((txBuilding_iff s).mpr (.inl hq)), activeMove_tx, hq, runFetched]
  · rw [step_builds hm hc ((txBuilding_iff s).mpr (.inr hq)), activeMove_tx, hq, runFetched]

/-- Settles O9: `run_record` from `C_OP`, where nothing of the record has been received. -/
theorem wholeRecordRunsItsCommand : Obligations.WholeRecordRunsItsCommand := by
  intro s i r hi hr hq hc hb
  have hdec : decode (.cmd (s.record ++ r)) = .ok i := by
    rw [record_op hq]
    exact decode_encode_cmd hi hr
  have hne : r ≠ [] := by
    rintro rfl
    cases decode_encode_cmd hi hr
  have hstart : s.cmdSeq = .data → s.cmdSkip = false := by simp [hq]
  obtain ⟨u, hrun, hop, hu⟩ := run_record r { s with moves := r.map .cmd } hne rfl hc hb hstart hdec
  refine ⟨u, hrun, ?_⟩
  rw [DecoderFrame, hop, ← hq] at hu
  exact hu
end

section
/-! PROOF. Reset and the Stopped core (R282, R320, R321, R324): the bit that a cause sets, a step at a clock edge in reset,
and the receive side of a core that is off. -/
namespace Sys2Proof.Machine

variable {s t : State}

/-! ### Raising (R281, R282) -/

theorem Cause.bit_lt (c : Cause) : c.bit < 6 := by
  cases c <;> decide

/-- R281: the mask of a cause holds the bit with its code and no other. -/
theorem Cause.mask_getLsbD (c : Cause) (j : Nat) : c.mask.getLsbD j = decide (j = c.bit) := by
  have hmask : c.mask = BitVec.twoPow 6 c.bit := rfl
  rw [hmask, BitVec.getLsbD_twoPow, decide_eq_true c.bit_lt, Bool.true_and]
  exact decide_eq_decide.mpr eq_comm

/-! ### A step in reset (R320, R321) -/

/-- R320: while `rst` is 1 no port transfers anything. -/
theorem ports_closed (h : s.rst = true) :
    s.cmdReady = false ∧ s.adcReady = false ∧ s.dacValid = false ∧ s.evtValidPin = false := by
  simp [State.cmdReady, State.adcReady, State.dacValid, State.evtValidPin, h]

/-- R15, R320: a move at a clock edge in reset is taken at once. -/
theorem resets_not_buildsFirst {m : Move} {ms : List Move} (hm : s.moves = m :: ms) (hr : s.resets m = true) :
    s.buildsFirst = false := by
  obtain h | rfl := (resets_iff s m).mp hr
  · simp [State.buildsFirst, (ports_closed h).1]
  · exact buildsFirst_not_command hm rfl

/-- R320: a scheduled move at a clock edge in reset leaves the reset state, with the environment's pins as it sets them. -/
theorem step_resets {m : Move} {ms : List Move} (hm : s.moves = m :: ms) (hr : s.resets m = true) :
    step s = .next (({ s with moves := ms } : State).rstEdge.envMove m) := by
  obtain ⟨hn, ht⟩ := nextMove_cons hm (resets_not_buildsFirst hm hr)
  rw [step_reset (by rw [hn]; exact hr), hn, ht]

/-- The moves that drive no pin of the environment leave the state as it is. -/
theorem envMove_offer (s : State) {m : Move}
    (h : (∃ b, m = .cmd b) ∨ (∃ xs last, m = .adc xs last) ∨ m = .rx ∨ m = .tx ∨ (∃ k, m = .tone k) ∨ m = .evt) :
    s.envMove m = s := by
  obtain ⟨b, rfl⟩ | ⟨xs, last, rfl⟩ | rfl | rfl | ⟨k, rfl⟩ | rfl := h <;> rfl

/-! ### The receive side while it is off (R303, R324) -/

/-- R23: a turn of a receive sequencer that is off runs nothing. -/
theorem fetch_rx_off (hq : s.rxSeq = .off) (hm : s.nextMove = .rx) (hr : s.resets s.nextMove = false) :
    ∃ ms n, fetch s = .idle { s with moves := ms, tick := n } := by
  obtain ⟨ms, n, hf⟩ := fetch_active hr
  refine ⟨ms, n, ?_⟩
  rw [hf, hm, activeMove_rx, hq]

/-- R252, R253: of the commands only a `START` that sets `RUN` takes the receive sequencer out of `RX_OFF`. -/
theorem CommandEffect.rxSeq_of_off {i : Instr} (h : CommandEffect s i t) (hq : s.rxSeq = .off) :
    t.rxSeq = .off ∨ t.run = true := by
  cases h with
  | started _ _ => exact .inr rfl
  | stopped => exact .inl ((if_neg (by simp [hq])).trans hq)
  | unchanged | raised _ | named _ | accepted _ _ _ | cleared _ => exact .inl hq

/-- R303, R324: from `RX_OFF` a step produces no event, and the sequencer stays there unless the step leaves `RUN` set. -/
theorem step_rx_off (hq : s.rxSeq = .off) (h : step s = .next t) :
    (t.evtValid = true → s.evtValid = true) ∧ (t.rxSeq = .off ∨ t.run = true) := by
  obtain ⟨_, rfl⟩ | ⟨hr, m, f, ms, n, hm, hf, hl, h⟩ := step_cases h
  · rw [envMove_frame]
    exact ⟨nofun, .inl rfl⟩
  have keep (hv : t.evtValid = s.evtValid) (hq' : t.rxSeq = s.rxSeq) :
      (t.evtValid = true → s.evtValid = true) ∧ (t.rxSeq = .off ∨ t.run = true) :=
    ⟨hv.symm.trans, .inl (hq'.trans hq)⟩
  cases hl with
  | receive _ =>
    obtain ⟨_, _, hidle⟩ := fetch_rx_off hq hm hr
    exact absurd (hf.symm.trans hidle) nofun
  | burst ha => exact absurd (hq.symm.trans ((adcReady_iff _).mp ha).2.2) nofun
  | command _ _ hi =>
    have he := effect_of_exec (exec_command hi _) h
    exact ⟨he.event_eq.2.symm.trans, he.rxSeq_of_off hq⟩
  | eventLast _ => cases h; exact ⟨nofun, .inl hq⟩
  | frame _ => exact keep (by rw [execTxFrame_frame h]) (by rw [execTxFrame_frame h])
  | pack _ => exact keep (by rw [execTxPack_frame h]) (by rw [execTxPack_frame h])
  | play _ => exact keep (by rw [execTxPlay_frame h]) (by rw [execTxPlay_frame h])
  | tone hi => exact keep (by rw [exec_tone_frame hi h]) (by rw [exec_tone_frame hi h])
  | environment => cases h; exact keep (by rw [envMove_frame]) (by rw [envMove_frame])
  | stops _ => cases h
  | waits | staged | badLen _ _ | badCmd _ _ | eventByte _ => cases h; exact keep rfl rfl

end Sys2Proof.Machine

namespace Sys2Proof.Safety

open Sys2Proof.Machine

variable {s t : State}

/-! ### The Stopped core (R324) -/

/-- R62, R74: no sample enters a Stopped core. -/
theorem step_stopped_blen (hs : CoreInv s) (hr : s.run = false) (h : step s = .next t) : t.blen ≤ s.blen := by
  obtain hk | ⟨ha, _⟩ := step_buf hs.adcData h
  · exact hk.length_le
  · exact absurd (hr.symm.trans ((adcReady_iff s).mp ha).2.1) nofun

/-- R64, R151: no sample leaves a Stopped core. -/
theorem step_stopped_dacOut (hr : s.run = false) (h : step s = .next t) : t.dacOut = s.dacOut := by
  obtain e | ⟨hr', _⟩ := step_dacOut h
  · exact e
  · exact absurd (hr.symm.trans hr') nofun

/-- R28: no frame begins in a Stopped core, and none is left from before. -/
theorem step_stopped_transmit (hs : CoreInv s) (hr : s.run = false) (h : step s = .next t) :
    t.txSeq = .idle ∧ t.txBusy = false := by
  have hb : s.txBusy = false := Bool.eq_false_iff.mpr fun hb => absurd (hr.symm.trans (hs.busyRun hb)) nofun
  have hb' : t.txBusy = false := Bool.eq_false_iff.mpr fun hb' =>
    absurd (hr.symm.trans ((step_frame hs h).busy_rises hb hb').1) nofun
  refine ⟨?_, hb'⟩
  by_contra hq
  exact absurd (hb'.symm.trans ((step_keeps hs h).busy.mpr hq)) nofun

end Sys2Proof.Safety

open Sys2Proof Sys2Proof.Machine Sys2Proof.Safety

/-- Settles O18: `Cause.mask_getLsbD` for the bit that is set; the rest of the state is what `raise` copies. -/
theorem raiseSetsOneBitOnly : Obligations.RaiseSetsOneBitOnly := by
  refine fun s c => ⟨rfl, c.bit_lt, fun j _ => ?_⟩
  rw [State.raise_err, BitVec.getLsbD_or, c.mask_getLsbD, Bool.or_comm]

/-- Settles O50: `step_resets` for every move, at the edge and while `rst` stays 1, and `ports_closed`. -/
theorem resetEdgeRestoresReset : Obligations.ResetEdgeRestoresReset := by
  intro s ms held
  have hedge (hr : s.rst = true) : ({ s with moves := ms } : State).rstEdge = held := by
    simp only [held, ← hr, State.rstEdge]
  have hstep {m : Move} (hr : s.rst = true) (hm : s.moves = m :: ms) : step s = .next (held.envMove m) := by
    rw [step_resets hm ((resets_iff s m).mpr (.inl hr)), hedge hr]
  refine ⟨fun hm => step_resets hm ((resets_iff s _).mpr (.inr rfl)), fun m hr hm hoffer => ?_,
    fun a d hr hm => hstep hr hm, fun r hr hm => hstep hr hm, ports_closed, fun hr hm => ⟨hstep hr hm, rfl⟩⟩
  rw [hstep hr hm, envMove_offer held hoffer]

/-- Settles O60: the samples and the frame by the rules of a Stopped core, the event and `RXSEQ` by `step_rx_off`. -/
theorem stoppedCoreIsQuiet : Obligations.StoppedCoreIsQuiet := by
  intro s t hs hr hq h
  obtain ⟨hevt, hrx⟩ := step_rx_off hq h
  obtain ⟨hidle, hfree⟩ := step_stopped_transmit hs hr h
  exact ⟨step_stopped_blen hs hr h, step_stopped_dacOut hr h, hevt, hidle, hfree, hrx⟩
end
